-- ==== Sys2Proof/Word.lean ====
section
/-! DEFINITION. The word types of the block (spec/00_scope.md R11, spec/30_encoding.md R91). All values are unsigned. -/

namespace Sys2Proof

/-- An 8-bit register, status code, result or data byte. -/
abbrev Byte := BitVec 8

/-- The command word CW40 (30_encoding.md R91): OP 39:36, MOD 35:32, IMM 31:0. -/
abbrev CmdWord := BitVec 40

/-- The packed control/status register (10_state.md R24). -/
abbrev CsrWord := BitVec 16

end Sys2Proof
end

