-- ==== Sys2Proof/Config.lean ====
section
/-! DEFINITION. What an implementation fixes (spec/00_scope.md R9, R10), the moves of the agents around the block, and the
free values (`opaque`, with no body): the spec's `draw_N` (R12) and the order and content of the agents' moves. -/

namespace Sys2Proof

/-- The parameters of 00_scope.md R9 that a decision of the spec fills with a default. They are fixed for a run
(10_state.md R45). `State` carries one record and no step writes it (log 2), so a claim can be about every record. -/
structure Config where
  /-- `F_REF`, the reference clock of the divisor formula in Hz. -/
  fRef : Nat
  /-- `DIR_WRITE` and `DIR_READ`, the two values of the direction bit. -/
  dirWrite : BitVec 1
  dirRead : BitVec 1
  /-- `ST_START`, "start condition sent". -/
  stStart : Byte
  /-- `ST_REP_START`, "repeated start condition sent". -/
  stRepStart : Byte
  /-- `ST_MT_SLA_ACK`, "master-transmit address acknowledged". -/
  stMtSlaAck : Byte
  /-- `ST_MT_DATA_ACK`, "master-transmit data acknowledged". -/
  stMtDataAck : Byte
  /-- `ST_MR_SLA_ACK`, "master-receive address acknowledged". -/
  stMrSlaAck : Byte
  /-- `ST_MR_DATA_ACK`, "master-receive data acknowledged". -/
  stMrDataAck : Byte
  /-- `ST_MR_DATA_NACK`, "master-receive data not-acknowledged". -/
  stMrDataNack : Byte
  /-- `OK`, the success sentinel. -/
  ok : Byte
  /-- `ERR_BUS_DISCONNECTED`. -/
  errBusDisconnected : Byte
  /-- `ERR_TRANSMISSION`. -/
  errTransmission : Byte
  /-- `RX_CHECK_INVERTED`, the polarity of RXBYTE's status test (90_conflicts.md C1). -/
  rxCheckInverted : Bool
  deriving DecidableEq, Repr, Inhabited

namespace Config

/-- The default of every parameter (00_scope.md R9). The numbers of the status codes, sentinels and direction bit are the
spec's own choice or general knowledge (D8, D9, D10, D14; logs 11, 12, 20). -/
def default : Config where
  fRef := 16000000
  dirWrite := 0
  dirRead := 1
  stStart := 0x08
  stRepStart := 0x10
  stMtSlaAck := 0x18
  stMtDataAck := 0x28
  stMrSlaAck := 0x40
  stMrDataAck := 0x50
  stMrDataNack := 0x58
  ok := 0x01
  errBusDisconnected := 0x02
  errTransmission := 0x03
  rxCheckInverted := false

/-- The seven success statuses, in the order of R9. -/
def statusCodes (c : Config) : List Byte :=
  [c.stStart, c.stRepStart, c.stMtSlaAck, c.stMtDataAck, c.stMrSlaAck, c.stMrDataAck, c.stMrDataNack]

/-- The form of a hardware status code: its low three bits are zero (00_scope.md R10 (c), N2). -/
def hardwareStatusForm (v : Byte) : Bool := v.extractLsb' 0 3 == 0

/-- The well-formedness predicate of 00_scope.md R10, clause by clause. Clause (c), "`OK` is not a value the bus engine can
place in `STATUS`", is read as: `OK` has not the form of a hardware status and is none of the seven codes (log 23). -/
def wf (c : Config) : Bool :=
  decide c.statusCodes.Nodup
    && decide [c.ok, c.errBusDisconnected, c.errTransmission].Nodup
    && (!hardwareStatusForm c.ok && !c.statusCodes.contains c.ok)
    && decide (0 < c.fRef ∧ c.fRef < 2 ^ 32)
    && decide (c.dirWrite ≠ c.dirRead)

/-- `draw_N` (00_scope.md R12): an unspecified `N`-bit value, under no law. The second argument is the number of draws made
before, kept in `State.draws`. -/
opaque draw (width : Nat) (count : Nat) : BitVec width

/-- `POLL_PERIOD`, the clock cycles of a poll iteration: open (R9, D27), and no rule of the model reads it (log 24). -/
opaque pollPeriod : Nat

/-- `T_STOP`, the time a stop needs: open (R9, D27), and no rule of the model reads it (log 24). -/
opaque tStop : Nat

/-- `REG_BASE[0..3]`, where a platform places the registers: open (20_memory.md R60, R69), read by no rule (log 24). -/
opaque regBase : Fin 4 → Nat

end Config

/-- One move of one agent (00_scope.md R8). Moves are atomic and interleave (10_state.md R40, 60_exceptions.md R207). -/
inductive Turn where
  /-- The block takes one step. -/
  | block
  /-- The bus engine's *complete* step, delivering `status` and `data` (20_memory.md R71). -/
  | complete (status data : Byte)
  /-- The bus engine's *stop-done* step (20_memory.md R73). -/
  | stopDone
  /-- The host asserts reset (10_state.md R47). -/
  | reset
  /-- The host drives `cmd` to `word` and `cmd_valid` to 1 (30_encoding.md R106). -/
  | offer (word : CmdWord)
  /-- The host drives `cmd_valid` to 0. -/
  | withdraw
  deriving DecidableEq, Repr, Inhabited

/-- The move made when `State.turns` lists none: no rule says which agent moves (20_memory.md R70, R76), so it is a free
value, one for each draw (log 1). -/
opaque Config.drawTurn (count : Nat) : Turn

end Sys2Proof
end

