-- ==== Sys2Proof/Syntax.lean ====
section
/-! DEFINITION. The seven operations (spec/30_encoding.md R90), one constructor per row of spec/opcode_table.json, and the
assembler lines of R109. -/

namespace Sys2Proof

/-- The acknowledge policy of RXBYTE: "SendAck|SendNack" (30_encoding.md R93). -/
inductive AckPolicy where
  | sendAck
  | sendNack
  deriving DecidableEq, Repr, Inhabited

/-- The operation set IICM-7 (30_encoding.md R90), with the operands of R93. Every operand is a field of the command word
and has that field's width, so no operand is out of range. -/
inductive Instr where
  /-- `INIT freq, ps` (40_init.md R120). -/
  | init (freq : BitVec 32) (ps : BitVec 2)
  /-- `START` (41_start.md R140). -/
  | start
  /-- `TXADDR addr, dir` (42_address.md R150). -/
  | txaddr (addr : BitVec 7) (dir : BitVec 1)
  /-- `TXBYTE byte` (43_transmit_byte.md R160). -/
  | txbyte (byte : Byte)
  /-- `RXBYTE ack` (44_receive_and_guard.md R170). -/
  | rxbyte (ack : AckPolicy)
  /-- `STOP` (45_stop.md R190). -/
  | stop
  /-- `WAITRDY budget` (44_receive_and_guard.md R178). -/
  | waitrdy (budget : Byte)
  deriving DecidableEq, Repr, Inhabited

/-- The row's mnemonic. -/
def Instr.mnemonic : Instr → String
  | .init _ _ => "INIT"
  | .start => "START"
  | .txaddr _ _ => "TXADDR"
  | .txbyte _ => "TXBYTE"
  | .rxbyte _ => "RXBYTE"
  | .stop => "STOP"
  | .waitrdy _ => "WAITRDY"

/-- The four names of the prescaler operand in assembler lines (30_encoding.md R109). -/
inductive AsmPrescaler where
  | x1
  | x4
  | x16
  | x64
  deriving DecidableEq, Repr, Inhabited

/-- The two names of the direction operand in assembler lines. -/
inductive AsmDirection where
  | w
  | r
  deriving DecidableEq, Repr, Inhabited

/-- One assembler line (30_encoding.md R109), its numbers as written: they may be out of range. -/
inductive AsmCommand where
  | init (freq : Nat) (ps : AsmPrescaler)
  | start
  | txaddr (addr : Nat) (dir : AsmDirection)
  | txbyte (byte : Nat)
  | rxbyte (ack : AckPolicy)
  | stop
  | waitrdy (budget : Nat)
  deriving DecidableEq, Repr, Inhabited

def AsmPrescaler.text : AsmPrescaler → String
  | .x1 => "X1"
  | .x4 => "X4"
  | .x16 => "X16"
  | .x64 => "X64"

def AsmDirection.text : AsmDirection → String
  | .w => "W"
  | .r => "R"

def AckPolicy.text : AckPolicy → String
  | .sendAck => "ACK"
  | .sendNack => "NACK"

/-- The line in the syntax of R109, its numbers in decimal. -/
def AsmCommand.text : AsmCommand → String
  | .init freq ps => "INIT " ++ toString freq ++ ", " ++ ps.text
  | .start => "START"
  | .txaddr addr dir => "TXADDR " ++ toString addr ++ ", " ++ dir.text
  | .txbyte byte => "TXBYTE " ++ toString byte
  | .rxbyte ack => "RXBYTE " ++ ack.text
  | .stop => "STOP"
  | .waitrdy budget => "WAITRDY " ++ toString budget

end Sys2Proof
end

