-- ==== Sys2Proof/Machine/State.lean ====
section
/-! DEFINITION. The state of the machine (spec/10_state.md), the reasons a step can stop, and the state after reset. -/

namespace Sys2Proof.Machine

/-- The micro-states of 10_state.md R36. The codes 0x16 to 0x1F are unused and have no value here. -/
inductive MicroState where
  | idle
  | initPs
  | initBr
  | initEn
  | startCtl
  | startPoll
  | startChk
  | txaData
  | txaCtl
  | txaPoll
  | txaChk
  | txbData
  | txbCtl
  | txbPoll
  | txbChk
  | rxEa
  | rxClr
  | rxPoll
  | rxChk
  | rxData
  | wrPoll
  | stopCtl
  deriving DecidableEq, Repr, Inhabited

/-- The machine's state: the fields of the four bus controller registers (10_state.md R22 to R34), the FSM's private state
(R35 to R39), the result channel (R41, R42), the host's lines (30_encoding.md R106), and the model's own three fields. -/
structure State where
  /-- `INT`, the interrupt flag of CSR (R25). -/
  int : Bool
  /-- `EA`, acknowledge-enable of CSR (R26). -/
  ea : Bool
  /-- `STA`, start of CSR (R27). -/
  sta : Bool
  /-- `STO`, stop of CSR (R28). -/
  sto : Bool
  /-- `EN`, enable of CSR (R29). -/
  en : Bool
  /-- `STATUS`, the status field of CSR (R30). -/
  status : Byte
  /-- `BR`, the bit-rate register (R32). -/
  br : Byte
  /-- `PS`, the prescaler register (R33). -/
  ps : BitVec 2
  /-- `DATA`, the data register (R34). -/
  data : Byte
  /-- `FSM`, the micro-state register (R35). -/
  fsm : MicroState
  /-- `CNT`, the guard's budget counter (R37). -/
  cnt : Byte
  /-- `LOP`, the latched opcode (R38). -/
  lop : BitVec 4
  /-- `LMOD`, the latched modifier (R38). -/
  lmod : BitVec 4
  /-- `LIMM`, the latched immediate (R38). -/
  limm : BitVec 32
  /-- `TMP`, the status read in a check state (R39). -/
  tmp : Byte
  /-- `RES`, the result of the last value-returning operation (R41). -/
  res : Byte
  /-- `RVALID`, whether `RES` belongs to the last accepted command (R42). -/
  rvalid : Bool
  /-- `cmd`, the command lines the host drives (30_encoding.md R106). -/
  cmd : CmdWord
  /-- `cmd_valid`, whether the host offers `cmd` (30_encoding.md R106). -/
  cmdValid : Bool
  /-- The configuration, which no step writes (10_state.md R45; log 2). -/
  cfg : Config
  /-- The coming moves of the agents, the next one first; where it lists none the next move is a free value (log 1). -/
  turns : List Turn
  /-- How many free values have been drawn. -/
  draws : Nat
  deriving DecidableEq, Repr

/-- The block has no faulting outcome: it raises no exception and takes no trap (60_exceptions.md R200). So there is no
fault reason, and every failure is a result code, a hang or a refusal. -/
inductive Fault where
  deriving DecidableEq, Repr

/-- The situations to which the spec gives no meaning: its `refuse(reason)` (00_scope.md R12). -/
inductive Refusal where
  /-- Raised by a dispatch arm whose command has no meaning in this model; no arm is left so. Safe. -/
  | notModelled (mnemonic : String)
  /-- Raised by a block step that finds a reserved word offered in IDLE (30_encoding.md R104). Safe: the spec refuses it. -/
  | reservedCommand (word : CmdWord)
  /-- Raised by INIT at acceptance when `freq` = 0 (40_init.md R126). Safe: the spec refuses it. -/
  | initFrequencyZero
  /-- Raised by START at acceptance while `STO` = 1 (41_start.md R145). Safe: the spec refuses it (log 14). -/
  | startWhileStopPending
  /-- Raised by `memRead` and `memWrite` for an index or a width that is no register's (20_memory.md R62, R63; U16). No
  command raises it. Safe: the spec refuses it. -/
  | badRegisterAccess (addr width : Nat)
  /-- Raised by `memWrite` for a write of 1 to a reserved bit of CSR (10_state.md R31; U15). No command raises it. Safe: the
  spec refuses it. -/
  | reservedBitWrite (value : CsrWord)
  deriving DecidableEq, Repr

/-- The machine right after reset (10_state.md R46). `FSM`, `INT`, `EA`, `STA`, `STO`, `EN` and `RVALID` are the spec's. The
spec leaves the others unspecified, and no claim may rest on their values here: `STATUS`, `BR`, `PS` and `DATA` take the
family's customary values (PRESUMED, unsafe, log 3); `CNT`, the latches, `TMP` and `RES` take zero (DESIGN CHOICE, unsafe,
log 4); the host's lines offer nothing (DESIGN CHOICE, unsafe, log 5); the model's own fields are as log 6 says. -/
def State.reset : State where
  int := false
  ea := false
  sta := false
  sto := false
  en := false
  status := 0xF8
  br := 0x00
  ps := 0
  data := 0xFF
  fsm := .idle
  cnt := 0
  lop := 0
  lmod := 0
  limm := 0
  tmp := 0
  res := 0
  rvalid := false
  cmd := 0
  cmdValid := false
  cfg := Config.default
  turns := []
  draws := 0

end Sys2Proof.Machine
end

