-- ==== Sys2Proof/Machine/Flags.lean ====
section
/-! DEFINITION. The packed control/status register (spec/10_state.md R24, R31) and what the whole control write and the
field writes carry (spec/20_memory.md R66, R67). The block has no condition codes (10_state.md R43). -/

namespace Sys2Proof.Machine

/-- The 16-bit value of CSR (R24): STATUS 15:8, INT 7, EA 6, STA 5, STO 4, EN 2; bits 3, 1 and 0 read 0 (R31). The layout is
the spec's decision D2 (log 13). -/
def State.csr (s : State) : CsrWord :=
  s.status ++ BitVec.ofBool s.int ++ BitVec.ofBool s.ea ++ BitVec.ofBool s.sta ++ BitVec.ofBool s.sto ++ 0#1
    ++ BitVec.ofBool s.en ++ 0#2

/-- `INT` of a CSR value that was read: `v[7]` (20_memory.md R62). -/
def csrInt (v : CsrWord) : Bool := v.getLsbD 7

/-- `STATUS` of a CSR value that was read: `v[15:8]` (20_memory.md R62). -/
def csrStatus (v : CsrWord) : Byte := v.extractLsb' 8 8

/-- Whether a value to be written to CSR has a 1 in a reserved bit (R31). -/
def csrReservedSet (v : CsrWord) : Bool := v.getLsbD 3 || v.getLsbD 1 || v.getLsbD 0

/-- The effect of writing `v` to CSR, field by field (R24): a 1 in bit 7 clears `INT`, a 0 leaves it; `EA`, `STA`, `STO`, `EN`
take their bits; `STATUS` is read-only. -/
def State.writeCsr (v : CsrWord) (s : State) : State :=
  { s with
    int := if v.getLsbD 7 then false else s.int
    ea := v.getLsbD 6
    sta := v.getLsbD 5
    sto := v.getLsbD 4
    en := v.getLsbD 2 }

/-- A subset `S` of {flag-clear, EA, STA, STO, EN}, the argument of `CtlWrite{S}` (20_memory.md R66). -/
structure CtlSet where
  flagClear : Bool := false
  ea : Bool := false
  sta : Bool := false
  sto : Bool := false
  en : Bool := false
  deriving DecidableEq, Repr

/-- The value that `CtlWrite{S}` writes to CSR (20_memory.md R66): the named bits 1, all other bits 0. -/
def CtlSet.word (c : CtlSet) : CsrWord :=
  0#8 ++ BitVec.ofBool c.flagClear ++ BitVec.ofBool c.ea ++ BitVec.ofBool c.sta ++ BitVec.ofBool c.sto ++ 0#1
    ++ BitVec.ofBool c.en ++ 0#2

/-- START's control write (41_start.md R141). -/
def CtlSet.start : CtlSet := { flagClear := true, sta := true, en := true }

/-- The control write of TXADDR and TXBYTE (42_address.md R152, 43_transmit_byte.md R162). -/
def CtlSet.transmit : CtlSet := { flagClear := true, en := true }

/-- STOP's control write (45_stop.md R191). -/
def CtlSet.stop : CtlSet := { flagClear := true, sto := true, en := true }

/-- The three field writes of CSR that the block uses (20_memory.md R67). -/
inductive FieldWrite where
  /-- `EN <- b`. -/
  | en (b : Bool)
  /-- `EA <- b`. -/
  | ea (b : Bool)
  /-- flag-clear: `INT <- 0`. -/
  | flagClear
  deriving DecidableEq, Repr

/-- The field write as one write of CSR (20_memory.md R67): bit 7 is 0 unless the field is flag-clear, and the other control
bits carry their current values. -/
def FieldWrite.word (f : FieldWrite) (s : State) : CsrWord :=
  match f with
  | .en b => CtlSet.word { flagClear := false, ea := s.ea, sta := s.sta, sto := s.sto, en := b }
  | .ea b => CtlSet.word { flagClear := false, ea := b, sta := s.sta, sto := s.sto, en := s.en }
  | .flagClear => CtlSet.word { flagClear := true, ea := s.ea, sta := s.sta, sto := s.sto, en := s.en }

end Sys2Proof.Machine
end

