-- ==== Sys2Proof/WellFormed.lean ====
section
/-! DEFINITION. Well-formedness. An `Instr` has operands of its fields' widths, so every `Instr` is well formed; what can be
ill formed is an assembler line (spec/30_encoding.md R109) and a configuration (spec/00_scope.md R10, `Config.wf`). -/

namespace Sys2Proof

/-- The operand ranges of 30_encoding.md R109: "An operand out of its range is an assembly error, never a silent
truncation." -/
def AsmCommand.wellFormed : AsmCommand → Bool
  | .init freq _ => decide (freq < 2 ^ 32)
  | .start => true
  | .txaddr addr _ => decide (addr < 128)
  | .txbyte byte => decide (byte < 256)
  | .rxbyte _ => true
  | .stop => true
  | .waitrdy budget => decide (budget < 256)

end Sys2Proof
end

