-- ==== Sys2Proof/Decode.lean ====
section
/-! DEFINITION. Decoding and encoding of command words (spec/30_encoding.md R91 to R95, R104), the opcode table as data
(R94, spec/opcode_table.json), and the assembler (R109). -/

namespace Sys2Proof

/-- Why a word is reserved (30_encoding.md R104). -/
inductive Reserved where
  /-- `OP` = 0 or `OP` in 8 to 15. -/
  | opcode (op : BitVec 4)
  /-- A bit that must be zero is set under the named operation's `OP`. -/
  | mustBeZero (mnemonic : String)
  deriving DecidableEq, Repr

/-- The policy as the bit that is written to `EA` (R93): 1 for SendAck, 0 for SendNack. -/
def AckPolicy.bit : AckPolicy → Bool
  | .sendAck => true
  | .sendNack => false

/-- The policy a bit stands for. -/
def AckPolicy.ofBit (b : Bool) : AckPolicy := if b then .sendAck else .sendNack

namespace CmdWord

/-- `OP` = bits 39:36 (R91). -/
def op (w : CmdWord) : BitVec 4 := w.extractLsb' 36 4

/-- `MOD` = bits 35:32 (R91). -/
def modifier (w : CmdWord) : BitVec 4 := w.extractLsb' 32 4

/-- `IMM` = bits 31:0 (R91). -/
def imm (w : CmdWord) : BitVec 32 := w.extractLsb' 0 32

end CmdWord

/-- `i` if the must-be-zero bits of its row are zero, else reserved (R93, R104). -/
def whenZero (zero : Bool) (i : Instr) : Except Reserved Instr :=
  if zero then .ok i else .error (.mustBeZero i.mnemonic)

/-- `decode(w)` (R95), by the opcode map of R92 and the operand fields and must-be-zero fields of R93. Total: a word with no
meaning is `.error`, with the reason. -/
def decode (w : CmdWord) : Except Reserved Instr :=
  let op := CmdWord.op w
  let m := CmdWord.modifier w
  let imm := CmdWord.imm w
  if op = 1 then
    whenZero (m.extractLsb' 2 2 == 0) (.init imm (m.extractLsb' 0 2))
  else if op = 2 then
    whenZero (m == 0 && imm == 0) .start
  else if op = 3 then
    whenZero (m.extractLsb' 1 3 == 0 && imm.extractLsb' 7 25 == 0)
      (.txaddr (imm.extractLsb' 0 7) (m.extractLsb' 0 1))
  else if op = 4 then
    whenZero (m == 0 && imm.extractLsb' 8 24 == 0) (.txbyte (imm.extractLsb' 0 8))
  else if op = 5 then
    whenZero (m.extractLsb' 1 3 == 0 && imm == 0) (.rxbyte (.ofBit (m.getLsbD 0)))
  else if op = 6 then
    whenZero (m == 0 && imm == 0) .stop
  else if op = 7 then
    whenZero (m == 0 && imm.extractLsb' 8 24 == 0) (.waitrdy (imm.extractLsb' 0 8))
  else
    .error (.opcode op)

/-- `OP` of an operation (R92). -/
def Instr.op : Instr → BitVec 4
  | .init _ _ => 1
  | .start => 2
  | .txaddr _ _ => 3
  | .txbyte _ => 4
  | .rxbyte _ => 5
  | .stop => 6
  | .waitrdy _ => 7

/-- `MOD` of an operation (R93): the operand in the low bits, zeros above. -/
def Instr.modifier : Instr → BitVec 4
  | .init _ ps => ps.zeroExtend 4
  | .start => 0
  | .txaddr _ dir => dir.zeroExtend 4
  | .txbyte _ => 0
  | .rxbyte ack => (BitVec.ofBool ack.bit).zeroExtend 4
  | .stop => 0
  | .waitrdy _ => 0

/-- `IMM` of an operation (R93): the operand in the low bits, zeros above. -/
def Instr.imm : Instr → BitVec 32
  | .init freq _ => freq
  | .start => 0
  | .txaddr addr _ => addr.zeroExtend 32
  | .txbyte byte => byte.zeroExtend 32
  | .rxbyte _ => 0
  | .stop => 0
  | .waitrdy budget => budget.zeroExtend 32

/-- The command word of an operation (R91): `OP ++ MOD ++ IMM`. -/
def encode (i : Instr) : CmdWord := i.op ++ i.modifier ++ i.imm

/-- One row of 30_encoding.md R94: a word `w` encodes the operation iff `w & mask == match`. -/
structure OpcodeRow where
  mnemonic : String
  matchBits : CmdWord
  mask : CmdWord
  deriving DecidableEq, Repr

/-- The row of an operation in R94. -/
def Instr.row : Instr → OpcodeRow
  | .init _ _ => ⟨"INIT", 0x1000000000, 0xFC00000000⟩
  | .start => ⟨"START", 0x2000000000, 0xFFFFFFFFFF⟩
  | .txaddr _ _ => ⟨"TXADDR", 0x3000000000, 0xFEFFFFFF80⟩
  | .txbyte _ => ⟨"TXBYTE", 0x4000000000, 0xFFFFFFFF00⟩
  | .rxbyte _ => ⟨"RXBYTE", 0x5000000000, 0xFEFFFFFFFF⟩
  | .stop => ⟨"STOP", 0x6000000000, 0xFFFFFFFFFF⟩
  | .waitrdy _ => ⟨"WAITRDY", 0x7000000000, 0xFFFFFFFF00⟩

/-- The seven rows of R94, in the table's order. -/
def opcodeTable : List OpcodeRow :=
  [(Instr.init 0 0).row, Instr.start.row, (Instr.txaddr 0 0).row, (Instr.txbyte 0).row,
   (Instr.rxbyte .sendNack).row, Instr.stop.row, (Instr.waitrdy 0).row]

/-- `w & mask == match` (R94). -/
def OpcodeRow.matchesWord (r : OpcodeRow) (w : CmdWord) : Bool := w &&& r.mask == r.matchBits

/-- The register value of a prescaler name (R109): 0, 1, 2, 3. -/
def AsmPrescaler.selector : AsmPrescaler → BitVec 2
  | .x1 => 0
  | .x4 => 1
  | .x16 => 2
  | .x64 => 3

/-- The direction bit of a direction name (R109, 00_scope.md R9). -/
def AsmDirection.bit (c : Config) : AsmDirection → BitVec 1
  | .w => c.dirWrite
  | .r => c.dirRead

/-- The operation a line names, its numbers taken into the operands' widths. -/
def AsmCommand.instr (c : Config) : AsmCommand → Instr
  | .init freq ps => .init (BitVec.ofNat 32 freq) ps.selector
  | .start => .start
  | .txaddr addr dir => .txaddr (BitVec.ofNat 7 addr) (dir.bit c)
  | .txbyte byte => .txbyte (BitVec.ofNat 8 byte)
  | .rxbyte ack => .rxbyte ack
  | .stop => .stop
  | .waitrdy budget => .waitrdy (BitVec.ofNat 8 budget)

/-- The assembler (R109, R110): one line gives one command word, and an operand out of its range is an error. -/
def assemble (c : Config) (a : AsmCommand) : Option CmdWord :=
  if a.wellFormed then some (encode (a.instr c)) else none

/-- The value of a digit in a base up to 16. -/
def digitValue (base : Nat) (c : Char) : Option Nat :=
  let n := c.toNat
  let d :=
    if 48 ≤ n ∧ n ≤ 57 then n - 48
    else if 65 ≤ n ∧ n ≤ 70 then n - 55
    else if 97 ≤ n ∧ n ≤ 102 then n - 87
    else 16
  if d < base then some d else none

/-- The digits after a number's first part, whose value is `acc`. -/
def digitsValue (base acc : Nat) : List Char → Option Nat
  | [] => some acc
  | c :: cs =>
    match digitValue base c with
    | some d => digitsValue base (acc * base + d) cs
    | none => none

/-- A number of R109: decimal, or hexadecimal after `0x`. -/
def numberValue : List Char → Option Nat
  | [] => none
  | ['0', 'x'] => none
  | '0' :: 'x' :: cs => digitsValue 16 0 cs
  | cs => digitsValue 10 0 cs

/-- The tokens of a line, up to a comment: commas, and runs of characters between blanks and commas. `cur` is the token being
read, last character first. -/
def lineTokens (cur : List Char) : List Char → List (List Char)
  | [] => if cur.isEmpty then [] else [cur.reverse]
  | c :: cs =>
    let done := if cur.isEmpty then [] else [cur.reverse]
    if c = ';' then done
    else if c = ',' then done ++ [[',']] ++ lineTokens [] cs
    else if c = ' ' ∨ c = '\t' then done ++ lineTokens [] cs
    else lineTokens (c :: cur) cs

/-- The prescaler name a token spells. -/
def AsmPrescaler.ofToken (t : List Char) : Option AsmPrescaler :=
  [AsmPrescaler.x1, .x4, .x16, .x64].find? fun p => p.text.toList == t

/-- The direction name a token spells. -/
def AsmDirection.ofToken (t : List Char) : Option AsmDirection := [AsmDirection.w, .r].find? fun d => d.text.toList == t

/-- The policy name a token spells. -/
def AckPolicy.ofToken (t : List Char) : Option AckPolicy := [AckPolicy.sendAck, .sendNack].find? fun a => a.text.toList == t

/-- The command that a line of text spells in the syntax of R109; none where it spells none. -/
def AsmCommand.parse (line : String) : Option AsmCommand :=
  match lineTokens [] line.toList with
  | [m] =>
    if m == "START".toList then some .start else if m == "STOP".toList then some .stop else none
  | [m, a] =>
    if m == "TXBYTE".toList then (numberValue a).map .txbyte
    else if m == "RXBYTE".toList then (AckPolicy.ofToken a).map .rxbyte
    else if m == "WAITRDY".toList then (numberValue a).map .waitrdy
    else none
  | [m, a, [','], b] =>
    if m == "INIT".toList then
      match numberValue a, AsmPrescaler.ofToken b with
      | some freq, some ps => some (.init freq ps)
      | _, _ => none
    else if m == "TXADDR".toList then
      match numberValue a, AsmDirection.ofToken b with
      | some addr, some dir => some (.txaddr addr dir)
      | _, _ => none
    else none
  | _ => none

/-- The assembler on text (R109): one line of text gives one command word, or an error. -/
def assembleLine (c : Config) (line : String) : Option CmdWord :=
  match AsmCommand.parse line with
  | some a => assemble c a
  | none => none

/-- The reader's interface: the operation the decoder reads from a table word of `nbits` bits. A command word is 40 bits
presented in parallel (R91), numbered as the table numbers it (log 25). -/
def decodeTableWord (nbits w : Nat) : Option Instr :=
  if nbits ≤ 40 ∧ w < 2 ^ nbits then (decode (BitVec.ofNat 40 w)).toOption else none

end Sys2Proof
end

