-- ==== Sys2Proof/Machine/Operands.lean ====
section
/-! DEFINITION. The micro-state codes (spec/10_state.md R36), the operands held in the latches (R38; spec/30_encoding.md
R93), the operation in flight, and the values computed from operands: the divisor (spec/40_init.md R121) and the address
byte (spec/42_address.md R151). -/

namespace Sys2Proof.Machine

/-- The 5-bit code of a micro-state (R36). -/
def MicroState.code : MicroState → BitVec 5
  | .idle => 0x00
  | .initPs => 0x01
  | .initBr => 0x02
  | .initEn => 0x03
  | .startCtl => 0x04
  | .startPoll => 0x05
  | .startChk => 0x06
  | .txaData => 0x07
  | .txaCtl => 0x08
  | .txaPoll => 0x09
  | .txaChk => 0x0A
  | .txbData => 0x0B
  | .txbCtl => 0x0C
  | .txbPoll => 0x0D
  | .txbChk => 0x0E
  | .rxEa => 0x0F
  | .rxClr => 0x10
  | .rxPoll => 0x11
  | .rxChk => 0x12
  | .rxData => 0x13
  | .wrPoll => 0x14
  | .stopCtl => 0x15

/-- The micro-states in the order of their codes. -/
def MicroState.all : List MicroState :=
  [.idle, .initPs, .initBr, .initEn, .startCtl, .startPoll, .startChk, .txaData, .txaCtl, .txaPoll, .txaChk,
   .txbData, .txbCtl, .txbPoll, .txbChk, .rxEa, .rxClr, .rxPoll, .rxChk, .rxData, .wrPoll, .stopCtl]

/-- The micro-state of a code; the codes 0x16 to 0x1F are unused. -/
def MicroState.ofCode (c : BitVec 5) : Option MicroState := MicroState.all[c.toNat]?

/-- `BUSY` (R35): `FSM` is not `IDLE`. -/
def State.busy (s : State) : Bool := s.fsm != .idle

/-- `freq` = `LIMM[31:0]` (40_init.md R120). -/
def State.latchedFreq (s : State) : BitVec 32 := s.limm

/-- `ps` = `LMOD[1:0]` (40_init.md R120). -/
def State.latchedPs (s : State) : BitVec 2 := s.lmod.extractLsb' 0 2

/-- `addr` = `LIMM[6:0]` (42_address.md R150). -/
def State.latchedAddr (s : State) : BitVec 7 := s.limm.extractLsb' 0 7

/-- `dir` = `LMOD[0]` (42_address.md R150). -/
def State.latchedDir (s : State) : BitVec 1 := s.lmod.extractLsb' 0 1

/-- `byte` = `LIMM[7:0]` (43_transmit_byte.md R160), and `budget` = `LIMM[7:0]` (44_receive_and_guard.md R178). -/
def State.latchedByte (s : State) : Byte := s.limm.extractLsb' 0 8

/-- `ack` = `LMOD[0]` (44_receive_and_guard.md R170). -/
def State.latchedAck (s : State) : AckPolicy := .ofBit (s.lmod.getLsbD 0)

/-- The latched command word, `LOP ++ LMOD ++ LIMM` (R38). -/
def State.latchedWord (s : State) : CmdWord := s.lop ++ s.lmod ++ s.limm

/-- The operation whose micro-state `FSM` is (R36), with its operands from the latches; none in `IDLE`. -/
def State.inFlight (s : State) : Option Instr :=
  match s.fsm with
  | .idle => none
  | .initPs | .initBr | .initEn => some (.init s.latchedFreq s.latchedPs)
  | .startCtl | .startPoll | .startChk => some .start
  | .txaData | .txaCtl | .txaPoll | .txaChk => some (.txaddr s.latchedAddr s.latchedDir)
  | .txbData | .txbCtl | .txbPoll | .txbChk => some (.txbyte s.latchedByte)
  | .rxEa | .rxClr | .rxPoll | .rxChk | .rxData => some (.rxbyte s.latchedAck)
  | .wrPoll => some (.waitrdy s.latchedByte)
  | .stopCtl => some .stop

/-- The micro-state that acceptance of an operation enters (30_encoding.md R107). -/
def firstState : Instr → MicroState
  | .init _ _ => .initPs
  | .start => .startCtl
  | .txaddr _ _ => .txaData
  | .txbyte _ => .txbData
  | .rxbyte _ => .rxEa
  | .stop => .stopCtl
  | .waitrdy _ => .wrPoll

/-- `MULT(ps)`, the multiplier of prescaler selector `ps` (10_state.md R33): 1, 4, 16, 64. -/
def mult (ps : BitVec 2) : Nat := 4 ^ ps.toNat

/-- `RX_BUDGET`: the source states 60 (00_scope.md R9, 44_receive_and_guard.md R172). -/
def rxBudget : Byte := 60

/-- `divisor(freq, ps)` (40_init.md R121) where the rule states a value: `q = F_REF div freq` at least 16. Below 16 the value
is unspecified (R127) and this is `none`. -/
def divisor (c : Config) (freq : BitVec 32) (ps : BitVec 2) : Option Byte :=
  let q := c.fRef / freq.toNat
  if 16 ≤ q then some (BitVec.ofNat 8 ((q - 16) / (2 * mult ps))) else none

/-- `sla` (42_address.md R151): `zext_8(addr) << 1 | zext_8(dir)`. -/
def slaByte (addr : BitVec 7) (dir : BitVec 1) : Byte := addr.zeroExtend 8 <<< 1 ||| dir.zeroExtend 8

/-- TXADDR's success status for the direction (42_address.md R154). -/
def slaAck (c : Config) (dir : BitVec 1) : Byte := if dir = c.dirWrite then c.stMtSlaAck else c.stMrSlaAck

/-- RXBYTE's `hit` (44_receive_and_guard.md R175): the status is one of the two receive codes. -/
def rxHit (c : Config) (status : Byte) : Bool := status == c.stMrDataAck || status == c.stMrDataNack

end Sys2Proof.Machine
end

