-- ==== Sys2Proof/Machine/Ops.lean ====
section
/-! DEFINITION. The shared operations: register access (spec/20_memory.md R62, R63), control and field writes (R66, R67),
draws and completion (spec/00_scope.md R12), acceptance (spec/30_encoding.md R107), the unbounded poll
(spec/41_start.md R142), the guard's iteration (spec/44_receive_and_guard.md R174, R179) and the status check (R143, R154,
R164). There is no exception to take and none to return from (spec/60_exceptions.md R200, R208, R209): the end of every
operation is `complete`. -/

namespace Sys2Proof.Machine

/-- What a step of a command answers. -/
abbrev Result := Host.Outcome State Fault Refusal

/-- `MemRead(addr, n)` (20_memory.md R62): the whole register, with no side effect; any other index or width refuses. -/
def memRead (addr n : Nat) (s : State) : Except Refusal (BitVec n) :=
  match addr, n with
  | 0, 16 => .ok s.csr
  | 1, 8 => .ok s.br
  | 2, 2 => .ok s.ps
  | 3, 8 => .ok s.data
  | addr, n => .error (.badRegisterAccess addr n)

/-- `MemWrite(addr, n, v)` (20_memory.md R63): a write of CSR acts per field (10_state.md R24) and refuses a 1 in a reserved
bit (10_state.md R31); the other three registers take `v`; any other index or width refuses. -/
def memWrite (addr n : Nat) (v : BitVec n) (s : State) : Except Refusal State :=
  match addr, n, v with
  | 0, 16, v => if csrReservedSet v then .error (.reservedBitWrite v) else .ok (s.writeCsr v)
  | 1, 8, v => .ok { s with br := v }
  | 2, 2, v => .ok { s with ps := v }
  | 3, 8, v => .ok { s with data := v }
  | addr, n, _ => .error (.badRegisterAccess addr n)

/-- Read a register, then go on with its value. -/
def readThen (addr n : Nat) (s : State) (k : BitVec n → Result) : Result :=
  match memRead addr n s with
  | .ok v => k v
  | .error r => .refused r

/-- Write a register, then go on in the state written. -/
def writeThen (addr n : Nat) (v : BitVec n) (s : State) (k : State → Result) : Result :=
  match memWrite addr n v s with
  | .ok s' => k s'
  | .error r => .refused r

/-- `FSM <- m` (00_scope.md R12). -/
def State.goto (m : MicroState) (s : State) : State := { s with fsm := m }

/-- `complete(v)` (00_scope.md R12). -/
def State.complete (v : Byte) (s : State) : State := { s with res := v, rvalid := true, fsm := .idle }

/-- `complete()` (00_scope.md R12): `RES` and `RVALID` are not written. -/
def State.completeVoid (s : State) : State := { s with fsm := .idle }

/-- One `draw_8` (00_scope.md R12), as the value and the state in which it has been drawn. -/
def State.drawByte (s : State) : Byte × State := (Config.draw 8 s.draws, { s with draws := s.draws + 1 })

/-- `CtlWrite{S}` (20_memory.md R66): one `MemWrite(0, 16, v)`. -/
def ctlWriteThen (c : CtlSet) (s : State) (k : State → Result) : Result := writeThen 0 16 c.word s k

/-- A field write of CSR (20_memory.md R67): the named field changes and nothing else. -/
def State.fieldWrite (f : FieldWrite) (s : State) : State :=
  match f with
  | .en b => { s with en := b }
  | .ea b => { s with ea := b }
  | .flagClear => { s with int := false }

/-- The effect of accepting operation `i` (30_encoding.md R107): the command word is latched, `RVALID` is cleared and `FSM`
enters the operation's first micro-state. The word is `encode i`, the only word that decodes to `i` (log 26). -/
def State.accept (i : Instr) (s : State) : State :=
  { s with
    lop := CmdWord.op (encode i)
    lmod := CmdWord.modifier (encode i)
    limm := CmdWord.imm (encode i)
    rvalid := false
    fsm := firstState i }

/-- An operation that is offered or named while another one runs: no command is accepted, the host is held
(30_encoding.md R107), and nothing changes. The machine's step never asks for this (log 9). -/
def held (s : State) : Result := .next s

/-- One iteration of an unbounded poll (41_start.md R142, 42_address.md R153, 43_transmit_byte.md R163): one read of CSR;
`INT` = 1 moves to `done`, else `FSM` stays in `stay`. -/
def pollInt (stay done : MicroState) (s : State) : Result :=
  readThen 0 16 s fun v => if csrInt v then .next (s.goto done) else .next (s.goto stay)

/-- One iteration of the timeout guard (44_receive_and_guard.md R174, R179): `CNT` = 0 times out without a read; else one read
of CSR; `INT` = 1 is Ready; else `CNT` falls by one and, if it is then 0, the guard times out in this same step. -/
def guardIteration (stay : MicroState) (ready : State → State) (s : State) : Result :=
  if s.cnt = 0 then
    .next (s.complete s.cfg.errBusDisconnected)
  else
    readThen 0 16 s fun v =>
      if csrInt v then
        .next (ready s)
      else
        let counted := { s with cnt := s.cnt - 1 }
        if counted.cnt = 0 then .next (counted.complete s.cfg.errBusDisconnected) else .next (counted.goto stay)

/-- One read of CSR whose `STATUS` goes to `TMP` (10_state.md R39), then `k` with that status. -/
def readStatusThen (s : State) (k : Byte → State → Result) : Result :=
  readThen 0 16 s fun v => k (csrStatus v) { s with tmp := csrStatus v }

/-- The check of START, TXADDR and TXBYTE (41_start.md R143, 42_address.md R154, 43_transmit_byte.md R164): `complete(OK)` on
a success status, else `complete(TMP)`, the raw status. -/
def checkStatus (success : Byte → Bool) (s : State) : Result :=
  readStatusThen s fun status s' => .next (s'.complete (if success status then s.cfg.ok else status))

end Sys2Proof.Machine
end

