-- ==== Sys2Proof/Machine/Agents.lean ====
section
/-! DEFINITION. The agents around the block and the choice of who moves: the bus engine (spec/20_memory.md R70 to R76), the
host (spec/30_encoding.md R106 to R108, spec/10_state.md R47), and what the block finds to do in its turn. -/

namespace Sys2Proof.Machine

/-- The next move and the state in which it is made: the head of `turns`, or a free value when `turns` is empty (log 1). -/
def takeTurn (s : State) : Turn × State :=
  match s.turns with
  | t :: ts => (t, { s with turns := ts })
  | [] => (Config.drawTurn s.draws, { s with draws := s.draws + 1 })

/-- *complete* (20_memory.md R71, R72, R74): enabled when `EN` = 1 and `INT` = 0. A turn that is not enabled does nothing (log
17). -/
def engineComplete (status data : Byte) (s : State) : State :=
  if s.en && !s.int then { s with status := status, data := data, int := true } else s

/-- *stop-done* (20_memory.md R73): `STO <- 0`. When `STO` = 0 it is not enabled and nothing changes. -/
def engineStopDone (s : State) : State := { s with sto := false }

/-- Reset asserted by the host at a step boundary (10_state.md R46, R47): the values the spec gives, and a free value in every
register it leaves unspecified (log 7). The host's lines and the configuration are no state of the block (R45). -/
def hostReset (s : State) : State :=
  { s with
    int := false
    ea := false
    sta := false
    sto := false
    en := false
    status := Config.draw 8 s.draws
    br := Config.draw 8 (s.draws + 1)
    ps := Config.draw 2 (s.draws + 2)
    data := Config.draw 8 (s.draws + 3)
    fsm := .idle
    cnt := Config.draw 8 (s.draws + 4)
    lop := Config.draw 4 (s.draws + 5)
    lmod := Config.draw 4 (s.draws + 6)
    limm := Config.draw 32 (s.draws + 7)
    tmp := Config.draw 8 (s.draws + 8)
    res := Config.draw 8 (s.draws + 9)
    rvalid := false
    draws := s.draws + 10 }

/-- The host offers a command word (30_encoding.md R106). -/
def hostOffer (w : CmdWord) (s : State) : State := { s with cmd := w, cmdValid := true }

/-- The host withdraws its offer. -/
def hostWithdraw (s : State) : State := { s with cmdValid := false }

/-- What the block finds to do in its turn. -/
inductive Fetched where
  /-- `IDLE` and no command is offered. -/
  | nothing
  /-- The operation in flight, or the one offered in `IDLE`. -/
  | run (i : Instr)
  /-- A reserved word is offered in `IDLE` (30_encoding.md R104). -/
  | reserved (w : CmdWord)
  deriving DecidableEq, Repr

/-- The operation in flight if there is one: while `BUSY` the host's lines are not looked at (30_encoding.md R107). In `IDLE`,
the decoded command if `cmd_valid` = 1. -/
def fetch (s : State) : Fetched :=
  match s.inFlight with
  | some i => .run i
  | none =>
    if s.cmdValid then
      match decode s.cmd with
      | .ok i => .run i
      | .error _ => .reserved s.cmd
    else .nothing

/-- What the host can observe: `BUSY`, `RES`, `RVALID` (60_exceptions.md R215). -/
def State.hostView (s : State) : Bool × Byte × Bool := (s.busy, s.res, s.rvalid)

end Sys2Proof.Machine
end

