-- ==== Sys2Proof/Machine/Address.lean ====
section
/-! DEFINITION. TXADDR, the address phase transmitter (spec/42_address.md). -/

namespace Sys2Proof.Machine

/-- `TXADDR addr, dir` (42_address.md R150): the address byte (R151), the control write (R152), the unbounded poll (R153) and
the check against the direction's success status (R154). -/
def execTxaddr (addr : BitVec 7) (dir : BitVec 1) (s : State) : Result :=
  match s.fsm with
  | .idle => .next (s.accept (.txaddr addr dir))
  | .txaData => writeThen 3 8 (slaByte addr dir) s fun s' => .next (s'.goto .txaCtl)
  | .txaCtl => ctlWriteThen .transmit s fun s' => .next (s'.goto .txaPoll)
  | .txaPoll => pollInt .txaPoll .txaChk s
  | .txaChk => checkStatus (fun status => status == slaAck s.cfg dir) s
  | _ => held s

end Sys2Proof.Machine
end

