-- ==== Sys2Proof/Machine/Init.lean ====
section
/-! DEFINITION. INIT, the bus initializer and clock-divisor scaler (spec/40_init.md). -/

namespace Sys2Proof.Machine

/-- Step `INIT_BR` (40_init.md R123): `BR <- divisor(freq, ps)`; a quotient below 16 leaves the value unspecified, a free
value (R127). -/
def initWriteDivisor (freq : BitVec 32) (ps : BitVec 2) (s : State) : Result :=
  match divisor s.cfg freq ps with
  | some br => writeThen 1 8 br s fun s' => .next (s'.goto .initEn)
  | none => writeThen 1 8 s.drawByte.1 s.drawByte.2 fun s' => .next (s'.goto .initEn)

/-- `INIT freq, ps` (40_init.md R120): refused at acceptance when `freq` = 0 (R126), then `PS` (R122), `BR` (R123) and `EN`
(R124), and completion without a result. -/
def execInit (freq : BitVec 32) (ps : BitVec 2) (s : State) : Result :=
  match s.fsm with
  | .idle => if freq = 0 then .refused .initFrequencyZero else .next (s.accept (.init freq ps))
  | .initPs => writeThen 2 2 ps s fun s' => .next (s'.goto .initBr)
  | .initBr => initWriteDivisor freq ps s
  | .initEn => .next (s.fieldWrite (.en true)).completeVoid
  | _ => held s

end Sys2Proof.Machine
end

