-- ==== Sys2Proof/Machine/Receive.lean ====
section
/-! DEFINITION. RXBYTE and WAITRDY, the byte receiver and the timeout guard (spec/44_receive_and_guard.md). -/

namespace Sys2Proof.Machine

/-- Step `RX_CHK` (44_receive_and_guard.md R175): the byte branch is taken when `hit xor RX_CHECK_INVERTED`. -/
def receiveCheck (s : State) : Result :=
  readStatusThen s fun status s' =>
    if rxHit s.cfg status ^^ s.cfg.rxCheckInverted then .next (s'.goto .rxData)
    else .next (s'.complete s.cfg.errTransmission)

/-- `RXBYTE ack` (44_receive_and_guard.md R170): the acknowledge policy (R171), flag-clear and the budget (R172), the guard
(R174), the status check (R175) and the data read (R176). -/
def execRxbyte (ack : AckPolicy) (s : State) : Result :=
  match s.fsm with
  | .idle => .next (s.accept (.rxbyte ack))
  | .rxEa => .next ((s.fieldWrite (.ea ack.bit)).goto .rxClr)
  | .rxClr => .next { (s.fieldWrite .flagClear) with cnt := rxBudget, fsm := .rxPoll }
  | .rxPoll => guardIteration .rxPoll (State.goto .rxChk) s
  | .rxChk => receiveCheck s
  | .rxData => readThen 3 8 s fun v => .next (s.complete v)
  | _ => held s

/-- `WAITRDY budget` (44_receive_and_guard.md R178): acceptance loads `CNT` (30_encoding.md R107), then the guard (R179) with
the result coding of R180. -/
def execWaitrdy (budget : Byte) (s : State) : Result :=
  match s.fsm with
  | .idle => .next { (s.accept (.waitrdy budget)) with cnt := budget }
  | .wrPoll => guardIteration .wrPoll (State.complete s.cfg.ok) s
  | _ => held s

end Sys2Proof.Machine
end

