-- ==== Sys2Proof/Machine/Start.lean ====
section
/-! DEFINITION. START, the start condition generator (spec/41_start.md). -/

namespace Sys2Proof.Machine

/-- START's success statuses (41_start.md R143). -/
def startSuccess (c : Config) (status : Byte) : Bool := status == c.stStart || status == c.stRepStart

/-- `START` (41_start.md R140): refused at acceptance while `STO` = 1 (R145), then the control write (R141), the unbounded
poll (R142) and the check (R143). -/
def execStart (s : State) : Result :=
  match s.fsm with
  | .idle => if s.sto then .refused .startWhileStopPending else .next (s.accept .start)
  | .startCtl => ctlWriteThen .start s fun s' => .next (s'.goto .startPoll)
  | .startPoll => pollInt .startPoll .startChk s
  | .startChk => checkStatus (startSuccess s.cfg) s
  | _ => held s

end Sys2Proof.Machine
end

