-- ==== Sys2Proof/Machine/Stop.lean ====
section
/-! DEFINITION. STOP, the stop condition generator (spec/45_stop.md). -/

namespace Sys2Proof.Machine

/-- `STOP` (45_stop.md R190): one control write (R191) and completion without a result. -/
def execStop (s : State) : Result :=
  match s.fsm with
  | .idle => .next (s.accept .stop)
  | .stopCtl => ctlWriteThen .stop s fun s' => .next s'.completeVoid
  | _ => held s

end Sys2Proof.Machine
end

