-- ==== Sys2Proof/Machine/TransmitByte.lean ====
section
/-! DEFINITION. TXBYTE, the byte transmitter (spec/43_transmit_byte.md). -/

namespace Sys2Proof.Machine

/-- `TXBYTE byte` (43_transmit_byte.md R160): the data byte (R161), the control write (R162), the unbounded poll (R163) and the
check (R164). -/
def execTxbyte (byte : Byte) (s : State) : Result :=
  match s.fsm with
  | .idle => .next (s.accept (.txbyte byte))
  | .txbData => writeThen 3 8 byte s fun s' => .next (s'.goto .txbCtl)
  | .txbCtl => ctlWriteThen .transmit s fun s' => .next (s'.goto .txbPoll)
  | .txbPoll => pollInt .txbPoll .txbChk s
  | .txbChk => checkStatus (fun status => status == s.cfg.stMtDataAck) s
  | _ => held s

end Sys2Proof.Machine
end

