-- ==== Sys2Proof/Machine/Dispatch.lean ====
section
/-! DEFINITION. One step of a command: acceptance in `IDLE`, the step of the micro-state in the command's own micro-states. -/

namespace Sys2Proof.Machine

def exec (i : Instr) (s : State) : Host.Outcome State Fault Refusal :=
  match i with
  | .init freq ps => Sys2Proof.Machine.execInit freq ps s
  | .start => Sys2Proof.Machine.execStart s
  | .txaddr addr dir => Sys2Proof.Machine.execTxaddr addr dir s
  | .txbyte byte => Sys2Proof.Machine.execTxbyte byte s
  | .rxbyte ack => Sys2Proof.Machine.execRxbyte ack s
  | .stop => Sys2Proof.Machine.execStop s
  | .waitrdy budget => Sys2Proof.Machine.execWaitrdy budget s

end Sys2Proof.Machine
end

