-- ==== Sys2Proof/Machine/Step.lean ====
section
/-! DEFINITION. One step of the machine: one move of one agent (spec/10_state.md R40). -/

namespace Sys2Proof.Machine

/-- The block's turn: one step of the operation in flight or offered; in `IDLE` with no command offered it waits; a reserved
word is refused by name (30_encoding.md R104). -/
def blockStep (s : State) : Host.Outcome State Fault Refusal :=
  match fetch s with
  | .nothing => .next s
  | .run i => exec i s
  | .reserved w => .refused (.reservedCommand w)

/-- A given agent's move. -/
def turnStep (t : Turn) (s : State) : Host.Outcome State Fault Refusal :=
  match t with
  | .block => blockStep s
  | .complete status data => .next (engineComplete status data s)
  | .stopDone => .next (engineStopDone s)
  | .reset => .next (hostReset s)
  | .offer w => .next (hostOffer w s)
  | .withdraw => .next (hostWithdraw s)

/-- One step: the next turn is taken and its move made. -/
def step (s : State) : Host.Outcome State Fault Refusal := turnStep (takeTurn s).1 (takeTurn s).2

/-- `n` steps, stopping at the first refusal: a run of the machine. -/
def run : Nat → State → Host.Outcome State Fault Refusal
  | 0, s => .next s
  | n + 1, s =>
    match step s with
    | .next s' => run n s'
    | .fault r => .fault r
    | .refused r => .refused r

/-- The reader's interface: `s` with the command word `w` offered, the block in `IDLE`, where it accepts a command, and the next
turn the block's, so that the very next step runs that command (log 8). -/
def State.withFetchWord (s : State) (_nbits w : Nat) : State :=
  { s with cmd := BitVec.ofNat 40 w, cmdValid := true, fsm := .idle, turns := .block :: s.turns }

end Sys2Proof.Machine
end

