-- ==== Sys2Proof/Machine/Peripheral.lean ====
section
/-! DEFINITION. The acknowledging peripheral (spec/20_memory.md R77): the bus engine restricted to one well-behaved
environment, for examples and for claims that name it. It is no state of the block. -/

namespace Sys2Proof.Machine

/-- The environment's own state: whether a transaction is open, and the bytes it has to send. -/
structure Peripheral where
  transactionOpen : Bool
  script : List Byte
  deriving DecidableEq, Repr

/-- The turns the engine takes after the block's step from state `s` (20_memory.md R77): one *complete* step after each control
write that clears `INT`, a *stop-done* step after STOP's. Two cases of a receive are the model's choice (log 22): with `EN` = 0,
where R74 disables *complete*, and with no byte left to send, it does not answer and its script stays. -/
def Peripheral.answer (p : Peripheral) (s : State) : List Turn × Peripheral :=
  match s.fsm with
  | .startCtl =>
    ([.complete (if p.transactionOpen then s.cfg.stRepStart else s.cfg.stStart) s.data], { p with transactionOpen := true })
  | .txaCtl => ([.complete (slaAck s.cfg (s.data.extractLsb' 0 1)) s.data], p)
  | .txbCtl => ([.complete s.cfg.stMtDataAck s.data], p)
  | .rxClr =>
    match s.en, p.script with
    | true, b :: bs => ([.complete (if s.ea then s.cfg.stMrDataAck else s.cfg.stMrDataNack) b], { p with script := bs })
    | false, _ => ([], p)
    | true, [] => ([], p)
  | .stopCtl => ([.stopDone], { p with transactionOpen := false })
  | _ => ([], p)

/-- `n` block steps, the engine answering after each as the acknowledging peripheral. -/
def ackRun : Nat → Peripheral → State → Host.Outcome State Fault Refusal
  | 0, _, s => .next s
  | n + 1, p, s =>
    let answer := p.answer s
    match run (1 + answer.1.length) { s with turns := .block :: answer.1 ++ s.turns } with
    | .next s' => ackRun n answer.2 s'
    | .fault r => .fault r
    | .refused r => .refused r

end Sys2Proof.Machine
end

