-- ==== Sys2Proof/Safety.lean ====
section
/-! DEFINITION. What a safe run is, and the invariant that every step keeps. -/

namespace Sys2Proof.Machine

/-- The preconditions of acceptance (spec/40_init.md R126, spec/41_start.md R145). -/
def acceptable (i : Instr) (s : State) : Bool :=
  match i with
  | .init freq _ => freq != 0
  | .start => !s.sto
  | .txaddr _ _ | .txbyte _ | .rxbyte _ | .stop | .waitrdy _ => true

/-- The host's duties at acceptance (spec/60_exceptions.md R219): what it offers in `IDLE` is no reserved word and meets its
operation's precondition. -/
def HostDutiesKept (s : State) : Prop :=
  s.busy = false → s.cmdValid = true → ∃ i, decode s.cmd = .ok i ∧ acceptable i s = true

/-- A run of `n` steps is safe when none of them is refused. -/
def SafeRun (n : Nat) (s : State) : Prop := ∃ t, run n s = .next t

/-- Micro-states entered only after a poll saw `INT` = 1. -/
def checkStates : List MicroState := [.startChk, .txaChk, .txbChk, .rxChk, .rxData]

/-- Micro-states between a waiting operation's whole control write and its completion. -/
def afterControlWrite : List MicroState := [.startPoll, .startChk, .txaPoll, .txaChk, .txbPoll, .txbChk]

/-- Micro-states of RXBYTE after the acknowledge policy is written. -/
def afterPolicyWrite : List MicroState := [.rxClr, .rxPoll, .rxChk, .rxData]

/-- Micro-states of RXBYTE after the budget is loaded. -/
def afterBudgetLoad : List MicroState := [.rxPoll, .rxChk, .rxData]

/-- The invariant: what the rules of the operations, the engine and the host together keep true between steps. -/
structure Inv (s : State) : Prop where
  /-- The latched word decodes to the operation whose micro-state `FSM` is (10_state.md R36, R38). -/
  latchesNameOperation : ∀ i, s.inFlight = some i → decode s.latchedWord = .ok i
  /-- A running operation was acceptable: INIT's frequency is not zero (40_init.md R126). -/
  frequencyNotZero : ∀ freq ps, s.inFlight = some (.init freq ps) → freq ≠ 0
  /-- START does not cut a stop short (41_start.md R145). -/
  noStopPendingAtStart : s.fsm = .startCtl → s.sto = false
  /-- No result is valid while an operation runs (10_state.md R42). -/
  noResultWhileBusy : s.busy = true → s.rvalid = false
  /-- The flag is set whenever status or data are looked at (10_state.md R25, 20_memory.md R72). -/
  flagSetWhenChecked : s.fsm ∈ checkStates → s.int = true
  /-- Between a waiting operation's control write and its completion the control bits are those it wrote (20_memory.md R66,
  R75): `EN` = 1, `EA` = `STO` = 0, and `STA` = 1 exactly for START. -/
  controlBitsOfPhase : s.fsm ∈ afterControlWrite →
    s.en = true ∧ s.ea = false ∧ s.sto = false ∧ (s.sta = true ↔ s.fsm = .startPoll ∨ s.fsm = .startChk)
  /-- `EA` is the acknowledge policy of the running RXBYTE (44_receive_and_guard.md R171). -/
  policyDriven : s.fsm ∈ afterPolicyWrite → s.ea = s.latchedAck.bit
  /-- RXBYTE's counter stays between 1 and the budget of 60 (44_receive_and_guard.md R172, R174). -/
  receiveCounterInBudget : s.fsm ∈ afterBudgetLoad → 1 ≤ s.cnt.toNat ∧ s.cnt.toNat ≤ 60
  /-- WAITRDY's counter stays at or below its operand, and is 0 only if that was 0 (44_receive_and_guard.md R179). -/
  waitCounterInBudget : s.fsm = .wrPoll → s.cnt.toNat ≤ s.latchedByte.toNat ∧ (s.cnt = 0 → s.latchedByte = 0)

end Sys2Proof.Machine
end

