-- ==== Sys2Proof/Certificates/Slice0/Obligations.lean ====
section
/-! DEFINITION. The statements for the provers. Each docstring says which rule of spec/ it formalises; a clause that rests on a
decision of the spec (`D<n>`) or on a log entry of the model says so. A run is `run n s`, `n` steps, one agent's move each;
the moves are those listed in `turns`. -/

open Sys2Proof Sys2Proof.Machine

/-! ### Encoding -/

/-- The example words of spec/30_encoding.md R109 and some reserved words of spec/95_test_vectors.md 2.1 (encoding: D17). -/
def Obligations.CommandWordsDecodeToTheirOperations : Prop :=
  decode 0x10000186A0 = .ok (.init 100000 0) ∧ decode 0x2000000000 = .ok .start ∧
    decode 0x3000000050 = .ok (.txaddr 0x50 0) ∧ decode 0x310000007F = .ok (.txaddr 0x7F 1) ∧
    decode 0x40000000AB = .ok (.txbyte 0xAB) ∧ decode 0x5100000000 = .ok (.rxbyte .sendAck) ∧
    decode 0x5000000000 = .ok (.rxbyte .sendNack) ∧ decode 0x6000000000 = .ok .stop ∧
    decode 0x700000003C = .ok (.waitrdy 60) ∧ decode 0x3000000080 = .error (.mustBeZero "TXADDR") ∧
    decode 0x1400000001 = .error (.mustBeZero "INIT") ∧ decode 0x0FFFFFFFFF = .error (.opcode 0) ∧
    decode 0x8000000000 = .error (.opcode 8)

/-- Decoding the word of an operation gives the operation, for every operation and every operand (R91 to R95, D17). -/
def Obligations.DecodeOfEncodeIsTheOperation : Prop := ∀ i : Instr, decode (encode i) = .ok i

/-- A word that decodes is the word of the operation it decodes to: no two words name one operation (R93, R94, D17). -/
def Obligations.EncodeOfDecodedIsTheWord : Prop := ∀ (w : CmdWord) (i : Instr), decode w = .ok i → encode i = w

/-- The field-wise decoder is the mask-and-match decoder of R94 and R95 (D17): a decoded word matches its operation's row, a
word that matches a row decodes to an operation of that row, a word is reserved exactly when no row matches, and no word
matches two rows. -/
def Obligations.DecodeFollowsTheMaskTable : Prop :=
  ∀ w : CmdWord,
    (∀ i, decode w = .ok i → i.row ∈ opcodeTable ∧ w &&& i.row.mask = i.row.matchBits) ∧
      (∀ r ∈ opcodeTable, w &&& r.mask = r.matchBits → ∃ i, decode w = .ok i ∧ i.row = r) ∧
      ((∃ e, decode w = .error e) ↔ ∀ r ∈ opcodeTable, w &&& r.mask ≠ r.matchBits) ∧
      opcodeTable.Pairwise fun a b => ¬(w &&& a.mask = a.matchBits ∧ w &&& b.mask = b.matchBits)

/-- The assembler (R109, D26): an operand out of its range is an error, and otherwise the word decodes to the operation with the
operand as written. -/
def Obligations.AssembledLineCarriesItsOperands : Prop :=
  ∀ c : Config,
    (∀ a : AsmCommand, a.wellFormed = false → assemble c a = none) ∧
      (∀ freq ps, freq < 2 ^ 32 → ∃ w f, assemble c (.init freq ps) = some w ∧
        decode w = .ok (.init f ps.selector) ∧ f.toNat = freq) ∧
      (∀ addr dir, addr < 128 → ∃ w a, assemble c (.txaddr addr dir) = some w ∧
        decode w = .ok (.txaddr a (dir.bit c)) ∧ a.toNat = addr) ∧
      (∀ byte, byte < 256 → ∃ w b, assemble c (.txbyte byte) = some w ∧ decode w = .ok (.txbyte b) ∧ b.toNat = byte) ∧
      (∀ budget, budget < 256 → ∃ w b, assemble c (.waitrdy budget) = some w ∧
        decode w = .ok (.waitrdy b) ∧ b.toNat = budget) ∧
      (∀ ack, ∃ w, assemble c (.rxbyte ack) = some w ∧ decode w = .ok (.rxbyte ack)) ∧
      assemble c .start = some 0x2000000000 ∧ assemble c .stop = some 0x6000000000

/-! ### The step and the host interface -/

/-- In `IDLE` the block's turn runs the decoded command that is offered (R107, D19). The step itself only takes the turn off
the list. -/
def Obligations.StepRunsTheOfferedCommand : Prop :=
  ∀ (s : State) (ts : List Turn) (i : Instr), s.turns = .block :: ts → s.fsm = .idle → s.cmdValid = true →
    decode s.cmd = .ok i → step s = exec i { s with turns := ts }

/-- Outside `IDLE` the block's turn runs the operation whose micro-state `FSM` is, with the latched operands, whatever the
host's lines hold (spec/10_state.md R36, R38; R107; D19, D31). -/
def Obligations.StepRunsTheOperationInFlight : Prop :=
  ∀ (s : State) (ts : List Turn), s.turns = .block :: ts →
    (s.fsm ∈ [.initPs, .initBr, .initEn] →
      step s = exec (.init s.limm (s.lmod.extractLsb' 0 2)) { s with turns := ts }) ∧
      (s.fsm ∈ [.startCtl, .startPoll, .startChk] → step s = exec .start { s with turns := ts }) ∧
      (s.fsm ∈ [.txaData, .txaCtl, .txaPoll, .txaChk] →
        step s = exec (.txaddr (s.limm.extractLsb' 0 7) (s.lmod.extractLsb' 0 1)) { s with turns := ts }) ∧
      (s.fsm ∈ [.txbData, .txbCtl, .txbPoll, .txbChk] →
        step s = exec (.txbyte (s.limm.extractLsb' 0 8)) { s with turns := ts }) ∧
      (s.fsm ∈ [.rxEa, .rxClr, .rxPoll, .rxChk, .rxData] →
        step s = exec (.rxbyte (if s.lmod.getLsbD 0 then .sendAck else .sendNack)) { s with turns := ts }) ∧
      (s.fsm = .stopCtl → step s = exec .stop { s with turns := ts }) ∧
      (s.fsm = .wrPoll → step s = exec (.waitrdy (s.limm.extractLsb' 0 8)) { s with turns := ts })

/-- In `IDLE` with nothing offered the block waits; with a reserved word offered the step is refused by name (R104, R107; D18,
D19). -/
def Obligations.IdleBlockWaitsOrRefusesReservedWord : Prop :=
  ∀ (s : State) (ts : List Turn), s.turns = .block :: ts → s.fsm = .idle →
    (s.cmdValid = false → step s = .next { s with turns := ts }) ∧
      (∀ e, s.cmdValid = true → decode s.cmd = .error e → step s = .refused (.reservedCommand s.cmd))

/-- Acceptance of each operation (R107; D19, D31): the latches, `RVALID` = 0, the first micro-state, and `CNT` for WAITRDY. -/
def Obligations.CommandsAreAcceptedInIdle : Prop :=
  ∀ s : State, s.fsm = .idle →
    (∀ freq ps, freq ≠ 0 → exec (.init freq ps) s =
      .next { s with lop := 1, lmod := ps.zeroExtend 4, limm := freq, rvalid := false, fsm := .initPs }) ∧
      (s.sto = false → exec .start s =
        .next { s with lop := 2, lmod := 0, limm := 0, rvalid := false, fsm := .startCtl }) ∧
      (∀ addr dir, exec (.txaddr addr dir) s =
        .next { s with lop := 3, lmod := dir.zeroExtend 4, limm := addr.zeroExtend 32, rvalid := false, fsm := .txaData }) ∧
      (∀ byte, exec (.txbyte byte) s =
        .next { s with lop := 4, lmod := 0, limm := byte.zeroExtend 32, rvalid := false, fsm := .txbData }) ∧
      (∀ ack, exec (.rxbyte ack) s =
        .next { s with lop := 5, lmod := if ack = .sendAck then 1 else 0, limm := 0, rvalid := false, fsm := .rxEa }) ∧
      exec .stop s = .next { s with lop := 6, lmod := 0, limm := 0, rvalid := false, fsm := .stopCtl } ∧
      (∀ budget, exec (.waitrdy budget) s = .next { s with
        lop := 7, lmod := 0, limm := budget.zeroExtend 32, rvalid := false, fsm := .wrPoll, cnt := budget })

/-- A step that accepts latches the three fields of the command word that the host offers (R107, R38; D19, D31). -/
def Obligations.AcceptanceLatchesTheOfferedWord : Prop :=
  ∀ (s : State) (ts : List Turn) (i : Instr), s.turns = .block :: ts → s.fsm = .idle → s.cmdValid = true →
    decode s.cmd = .ok i → (∀ ps, i ≠ .init 0 ps) → (i = .start → s.sto = false) →
    ∃ t, step s = .next t ∧ t.lop = s.cmd.extractLsb' 36 4 ∧ t.lmod = s.cmd.extractLsb' 32 4 ∧
      t.limm = s.cmd.extractLsb' 0 32 ∧ t.rvalid = false ∧ t.busy = true ∧ t.inFlight = some i

/-- The two preconditions of acceptance, each refused by name (spec/40_init.md R126, D16; spec/41_start.md R145, D28). -/
def Obligations.UnacceptableCommandsAreRefused : Prop :=
  ∀ s : State, s.fsm = .idle →
    (∀ ps, exec (.init 0 ps) s = .refused .initFrequencyZero) ∧
      (s.sto = true → exec .start s = .refused .startWhileStopPending)

/-- The only refusals (spec/00_scope.md R13, spec/60_exceptions.md R206, R219): a host that keeps its duties is never refused,
and a step that is refused is the block's turn in `IDLE` with an offer that breaks one of three duties. So an accepted
operation is never refused. -/
def Obligations.StepIsRefusedOnlyAtAcceptance : Prop :=
  ∀ s : State,
    (HostDutiesKept s → ∃ t, step s = .next t) ∧
      ∀ r, step s = .refused r →
        (takeTurn s).1 = .block ∧ s.fsm = .idle ∧ s.cmdValid = true ∧
          ((∃ e, decode s.cmd = .error e ∧ r = .reservedCommand s.cmd) ∨
            (∃ ps, decode s.cmd = .ok (.init 0 ps) ∧ r = .initFrequencyZero) ∨
            (decode s.cmd = .ok .start ∧ s.sto = true ∧ r = .startWhileStopPending))

/-! ### The bus engine and reset -/

/-- The bus engine's two steps (spec/20_memory.md R70, R71, R73, R74, D22): *complete* when `EN` = 1 and `INT` = 0, and
*stop-done*. A turn in which the step is not enabled changes nothing (log 17). -/
def Obligations.EngineStepsAsItsContractSays : Prop :=
  ∀ (s : State) (ts : List Turn),
    (∀ status data, s.turns = .complete status data :: ts → s.en = true → s.int = false →
      step s = .next { s with turns := ts, status := status, data := data, int := true }) ∧
      (∀ status data, s.turns = .complete status data :: ts → s.en = false ∨ s.int = true →
        step s = .next { s with turns := ts }) ∧
      (s.turns = .stopDone :: ts → step s = .next { s with turns := ts, sto := false })

/-- Reset asserted at any step boundary, in any state (spec/10_state.md R46, R47, spec/70_reset_and_hazards.md R230, D21): the
values the rule gives. The registers it leaves unspecified take free values (log 7) and are not mentioned; the configuration
and the host's lines stay. -/
def Obligations.ResetReachesIdleFromAnyState : Prop :=
  ∀ (s : State) (ts : List Turn), s.turns = .reset :: ts →
    ∃ t, step s = .next t ∧ t.fsm = .idle ∧ t.int = false ∧ t.ea = false ∧ t.sta = false ∧ t.sto = false ∧
      t.en = false ∧ t.rvalid = false ∧ t.cfg = s.cfg ∧ t.cmd = s.cmd ∧ t.cmdValid = s.cmdValid ∧ t.turns = ts

/-- The values that R46 states for the state after reset (D21); the others are the model's own (logs 3 to 6). -/
def Obligations.ResetStateHoldsTheStatedValues : Prop :=
  State.reset.fsm = .idle ∧ State.reset.busy = false ∧ State.reset.int = false ∧ State.reset.ea = false ∧
    State.reset.sta = false ∧ State.reset.sto = false ∧ State.reset.en = false ∧ State.reset.rvalid = false

/-! ### The register space -/

/-- MemRead (spec/20_memory.md R62, D3, D4): the four registers, and a refusal for any other index or width. -/
def Obligations.RegisterReadsGiveTheWholeRegister : Prop :=
  ∀ s : State, memRead 0 16 s = .ok s.csr ∧ memRead 1 8 s = .ok s.br ∧ memRead 2 2 s = .ok s.ps ∧
    memRead 3 8 s = .ok s.data ∧
    ∀ addr n, (addr, n) ∉ [(0, 16), (1, 8), (2, 2), (3, 8)] → memRead addr n s = .error (.badRegisterAccess addr n)

/-- The packed CSR (spec/10_state.md R24, R31; D2): every field at its place, and the reserved bits 3, 1 and 0 read 0. -/
def Obligations.PackedCsrHoldsItsFields : Prop :=
  ∀ s : State, s.csr.extractLsb' 8 8 = s.status ∧ s.csr.getLsbD 7 = s.int ∧ s.csr.getLsbD 6 = s.ea ∧
    s.csr.getLsbD 5 = s.sta ∧ s.csr.getLsbD 4 = s.sto ∧ s.csr.getLsbD 3 = false ∧ s.csr.getLsbD 2 = s.en ∧
    s.csr.getLsbD 1 = false ∧ s.csr.getLsbD 0 = false

/-- MemWrite (spec/20_memory.md R63, spec/10_state.md R24, R31; D2, D3, D4): `BRR`, `PSR` and `DR` read back what was written; a
write of `CSR` with a reserved bit set is refused and otherwise leaves `STATUS`; a write leaves every other register as it
reads; any other index or width is refused. -/
def Obligations.RegisterWritesStoreAndKeepTheRest : Prop :=
  ∀ s : State,
    (∀ v, memWrite 1 8 v s = .ok { s with br := v }) ∧ (∀ v, memWrite 2 2 v s = .ok { s with ps := v }) ∧
      (∀ v, memWrite 3 8 v s = .ok { s with data := v }) ∧
      (∀ v : CsrWord, v.getLsbD 3 = true ∨ v.getLsbD 1 = true ∨ v.getLsbD 0 = true →
        memWrite 0 16 v s = .error (.reservedBitWrite v)) ∧
      (∀ v : CsrWord, v.getLsbD 3 = false → v.getLsbD 1 = false → v.getLsbD 0 = false →
        ∃ t, memWrite 0 16 v s = .ok t ∧ t.status = s.status ∧ t.ea = v.getLsbD 6 ∧ t.sta = v.getLsbD 5 ∧
          t.sto = v.getLsbD 4 ∧ t.en = v.getLsbD 2 ∧ t.int = (s.int && !v.getLsbD 7)) ∧
      (∀ addr n v t, memWrite addr n v s = .ok t → ∀ a m, a ≠ addr → memRead a m t = memRead a m s) ∧
      ∀ addr n v, (addr, n) ∉ [(0, 16), (1, 8), (2, 2), (3, 8)] →
        memWrite addr n v s = .error (.badRegisterAccess addr n)

/-- The whole control write (spec/20_memory.md R66, D5): its effect for every subset of control bits, and the packed values of
the three that the block uses. -/
def Obligations.WholeControlWriteSetsEveryControlBit : Prop :=
  (∀ (c : CtlSet) (s : State), memWrite 0 16 c.word s = .ok { s with
      int := if c.flagClear then false else s.int, ea := c.ea, sta := c.sta, sto := c.sto, en := c.en }) ∧
    CtlSet.start.word = 0x00A4 ∧ CtlSet.transmit.word = 0x0084 ∧ CtlSet.stop.word = 0x0094

/-- The field write (spec/20_memory.md R67; D6, D7): it changes the named field and nothing else, and is the CSR write whose
bit 7 is 0 unless the field is flag-clear and whose other control bits carry their current values. -/
def Obligations.FieldWriteChangesOneField : Prop :=
  ∀ s : State,
    (∀ b, s.fieldWrite (.en b) = { s with en := b }) ∧ (∀ b, s.fieldWrite (.ea b) = { s with ea := b }) ∧
      s.fieldWrite .flagClear = { s with int := false } ∧
      ∀ f : FieldWrite, memWrite 0 16 (f.word s) s = .ok (s.fieldWrite f)

/-! ### The steps of the operations -/

/-- The poll steps of START, TXADDR and TXBYTE (spec/41_start.md R142, spec/42_address.md R153, spec/43_transmit_byte.md R163): one
read of CSR; `INT` = 1 goes on, else the state stays; `CNT` and everything else is unchanged. -/
def Obligations.UnboundedPollWaitsForTheFlag : Prop :=
  ∀ s : State,
    (s.fsm = .startPoll → exec .start s = .next { s with fsm := if s.int then .startChk else .startPoll }) ∧
      (∀ addr dir, s.fsm = .txaPoll →
        exec (.txaddr addr dir) s = .next { s with fsm := if s.int then .txaChk else .txaPoll }) ∧
      ∀ byte, s.fsm = .txbPoll → exec (.txbyte byte) s = .next { s with fsm := if s.int then .txbChk else .txbPoll }

/-- The data register writes of TXADDR and TXBYTE (spec/42_address.md R151, spec/43_transmit_byte.md R161): the address byte is
`addr ++ dir`, the data byte is the operand itself, and a running TXBYTE takes its operand from `LIMM[7:0]`. -/
def Obligations.TransmitStepsWriteTheDataRegister : Prop :=
  ∀ s : State,
    (∀ (addr : BitVec 7) (dir : BitVec 1), s.fsm = .txaData →
      exec (.txaddr addr dir) s = .next { s with data := addr ++ dir, fsm := .txaCtl }) ∧
      (∀ byte, s.fsm = .txbData → exec (.txbyte byte) s = .next { s with data := byte, fsm := .txbCtl }) ∧
      ∀ ts, s.fsm = .txbData → s.turns = .block :: ts →
        step s = .next { s with turns := ts, data := s.limm.extractLsb' 0 8, fsm := .txbCtl }

/-- The control write steps of START, TXADDR, TXBYTE and STOP (spec/41_start.md R141, spec/42_address.md R152,
spec/43_transmit_byte.md R162, spec/45_stop.md R191; that bits not named are written 0 is D5). STOP completes without a
result in this step. -/
def Obligations.ControlWriteStepsSignalTheEngine : Prop :=
  ∀ s : State,
    (s.fsm = .startCtl → exec .start s = .next { s with
      int := false, ea := false, sta := true, sto := false, en := true, fsm := .startPoll }) ∧
      (∀ addr dir, s.fsm = .txaCtl → exec (.txaddr addr dir) s = .next { s with
        int := false, ea := false, sta := false, sto := false, en := true, fsm := .txaPoll }) ∧
      (∀ byte, s.fsm = .txbCtl → exec (.txbyte byte) s = .next { s with
        int := false, ea := false, sta := false, sto := false, en := true, fsm := .txbPoll }) ∧
      (s.fsm = .stopCtl → exec .stop s = .next { s with
        int := false, ea := false, sta := false, sto := true, en := true, fsm := .idle })

/-- The check steps of TXADDR and TXBYTE (spec/42_address.md R154, spec/43_transmit_byte.md R164); a running TXADDR checks against
the direction that was latched at acceptance. That the check is a step of its own is the spec's decision D30. -/
def Obligations.TransmitChecksReturnOkOrTheRawStatus : Prop :=
  ∀ s : State,
    (∀ addr dir, s.fsm = .txaChk → exec (.txaddr addr dir) s = .next { s with
      tmp := s.status
      res := if s.status = (if dir = s.cfg.dirWrite then s.cfg.stMtSlaAck else s.cfg.stMrSlaAck) then s.cfg.ok
        else s.status
      rvalid := true
      fsm := .idle }) ∧
      (∀ byte, s.fsm = .txbChk → exec (.txbyte byte) s = .next { s with
        tmp := s.status
        res := if s.status = s.cfg.stMtDataAck then s.cfg.ok else s.status
        rvalid := true
        fsm := .idle }) ∧
      ∀ ts, s.fsm = .txaChk → s.turns = .block :: ts → step s = .next { s with
        turns := ts
        tmp := s.status
        res := if s.status = (if s.lmod.extractLsb' 0 1 = s.cfg.dirWrite then s.cfg.stMtSlaAck else s.cfg.stMrSlaAck)
          then s.cfg.ok else s.status
        rvalid := true
        fsm := .idle }

/-- START's check step (spec/41_start.md R143, R146; that it is a step of its own is D30). -/
def Obligations.StartCheckReturnsOkOrTheRawStatus : Prop :=
  ∀ s : State, s.fsm = .startChk → exec .start s = .next { s with
    tmp := s.status
    res := if s.status = s.cfg.stStart ∨ s.status = s.cfg.stRepStart then s.cfg.ok else s.status
    rvalid := true
    fsm := .idle }

/-- INIT's first step (spec/40_init.md R122): the selector is written, and a running INIT takes it from `LMOD[1:0]`. -/
def Obligations.InitWritesThePrescaler : Prop :=
  ∀ s : State, s.fsm = .initPs →
    (∀ (freq : BitVec 32) (ps : BitVec 2), exec (.init freq ps) s = .next { s with ps := ps, fsm := .initBr }) ∧
      ∀ ts, s.turns = .block :: ts →
        step s = .next { s with turns := ts, ps := s.lmod.extractLsb' 0 2, fsm := .initBr }

/-- INIT's other steps (spec/40_init.md R121, R123, R124, R127; D6, D15, D16, D25): the divisor, where the rule states it; a
free value where it does not (log 10), with everything else as usual; then the enable bit and completion. -/
def Obligations.InitWritesTheDivisorThenEnables : Prop :=
  ∀ (s : State) (freq : BitVec 32) (ps : BitVec 2),
    (s.fsm = .initBr → 16 ≤ s.cfg.fRef / freq.toNat → exec (.init freq ps) s = .next { s with
      br := BitVec.ofNat 8 ((s.cfg.fRef / freq.toNat - 16) / (2 * 4 ^ ps.toNat))
      fsm := .initEn }) ∧
      (s.fsm = .initBr → s.cfg.fRef / freq.toNat < 16 → exec (.init freq ps) s = .next { s with
        br := Config.draw 8 s.draws
        draws := s.draws + 1
        fsm := .initEn }) ∧
      (s.fsm = .initEn → exec (.init freq ps) s = .next { s with en := true, fsm := .idle })

/-- A divisor above 255 is written modulo 256, without any report (spec/40_init.md R125). -/
def Obligations.DivisorAboveOneByteWraps : Prop :=
  ∀ (s : State) (freq : BitVec 32) (ps : BitVec 2), s.fsm = .initBr → 16 ≤ s.cfg.fRef / freq.toNat →
    255 < (s.cfg.fRef / freq.toNat - 16) / (2 * 4 ^ ps.toNat) →
    ∃ t, exec (.init freq ps) s = .next t ∧
      t.br.toNat = (s.cfg.fRef / freq.toNat - 16) / (2 * 4 ^ ps.toNat) % 256 ∧
      t = { s with br := t.br, fsm := .initEn }

/-- The second division of the divisor is a right shift by `1 + 2 × ps` (spec/40_init.md R121, its derived clause, R33). -/
def Obligations.DivisorIsARightShift : Prop :=
  ∀ (c : Config) (freq : BitVec 32) (ps : BitVec 2), 16 ≤ c.fRef / freq.toNat →
    divisor c freq ps = some (BitVec.ofNat 8 ((c.fRef / freq.toNat - 16) >>> (1 + 2 * ps.toNat)))

/-- RXBYTE's steps but for the poll (spec/44_receive_and_guard.md R171, R172, R175, R176; D7, D11, D32): the policy, flag-clear and
the budget of 60, the check under either polarity, and the data read. -/
def Obligations.ReceiveStepsFollowTheirRules : Prop :=
  ∀ (s : State) (ack : AckPolicy),
    (s.fsm = .rxEa → exec (.rxbyte ack) s = .next { s with ea := decide (ack = .sendAck), fsm := .rxClr }) ∧
      (s.fsm = .rxClr → exec (.rxbyte ack) s = .next { s with int := false, cnt := 60, fsm := .rxPoll }) ∧
      (s.fsm = .rxChk →
        ((s.status = s.cfg.stMrDataAck ∨ s.status = s.cfg.stMrDataNack) ↔ s.cfg.rxCheckInverted = false) →
        exec (.rxbyte ack) s = .next { s with tmp := s.status, fsm := .rxData }) ∧
      (s.fsm = .rxChk →
        ((s.status = s.cfg.stMrDataAck ∨ s.status = s.cfg.stMrDataNack) ↔ s.cfg.rxCheckInverted = true) →
        exec (.rxbyte ack) s =
          .next { s with tmp := s.status, res := s.cfg.errTransmission, rvalid := true, fsm := .idle }) ∧
      (s.fsm = .rxData → exec (.rxbyte ack) s = .next { s with res := s.data, rvalid := true, fsm := .idle })

/-- One iteration of the guard in RXBYTE and WAITRDY (spec/44_receive_and_guard.md R174, R179, R180; the order of the two tests is the
spec's decision D12, WAITRDY's result codes are D13; log 27): `CNT` = 0 times out; a flag seen is Ready; else `CNT` falls by one,
and at 0 the guard times out in the same step. -/
def Obligations.GuardIterationCountsDown : Prop :=
  ∀ s : State,
    (∀ ack, s.fsm = .rxPoll →
      (s.cnt = 0 → exec (.rxbyte ack) s =
        .next { s with res := s.cfg.errBusDisconnected, rvalid := true, fsm := .idle }) ∧
      (s.cnt ≠ 0 → s.int = true → exec (.rxbyte ack) s = .next { s with fsm := .rxChk }) ∧
      (s.cnt = 1 → s.int = false → exec (.rxbyte ack) s =
        .next { s with cnt := 0, res := s.cfg.errBusDisconnected, rvalid := true, fsm := .idle }) ∧
      (1 < s.cnt.toNat → s.int = false → exec (.rxbyte ack) s = .next { s with cnt := s.cnt - 1 })) ∧
      ∀ budget, s.fsm = .wrPoll →
        (s.cnt = 0 → exec (.waitrdy budget) s =
          .next { s with res := s.cfg.errBusDisconnected, rvalid := true, fsm := .idle }) ∧
        (s.cnt ≠ 0 → s.int = true → exec (.waitrdy budget) s =
          .next { s with res := s.cfg.ok, rvalid := true, fsm := .idle }) ∧
        (s.cnt = 1 → s.int = false → exec (.waitrdy budget) s =
          .next { s with cnt := 0, res := s.cfg.errBusDisconnected, rvalid := true, fsm := .idle }) ∧
        (1 < s.cnt.toNat → s.int = false → exec (.waitrdy budget) s = .next { s with cnt := s.cnt - 1 })

/-! ### Frames: what one step of an operation leaves unchanged, in every state -/

/-- INIT (spec/20_memory.md R61, spec/40_init.md R120): each step writes at most the one register its rule names. -/
def Obligations.InitFrame : Prop :=
  ∀ (s t : State) (freq : BitVec 32) (ps : BitVec 2), exec (.init freq ps) s = .next t →
    t.int = s.int ∧ t.ea = s.ea ∧ t.sta = s.sta ∧ t.sto = s.sto ∧ t.status = s.status ∧
      (s.fsm ≠ .initEn → t.en = s.en) ∧
      (s.fsm ≠ .initEn → memRead 0 16 t = memRead 0 16 s) ∧ (s.fsm ≠ .initBr → memRead 1 8 t = memRead 1 8 s) ∧
      (s.fsm ≠ .initPs → memRead 2 2 t = memRead 2 2 s) ∧ memRead 3 8 t = memRead 3 8 s ∧
      (s.fsm ≠ .idle → t.lop = s.lop ∧ t.lmod = s.lmod ∧ t.limm = s.limm ∧ t.rvalid = s.rvalid) ∧
      t.cnt = s.cnt ∧ t.tmp = s.tmp ∧ t.res = s.res ∧ t.cmd = s.cmd ∧ t.cmdValid = s.cmdValid ∧ t.cfg = s.cfg ∧
      t.turns = s.turns ∧ (s.fsm ≠ .initBr → t.draws = s.draws)

/-- START, TXADDR and TXBYTE (spec/20_memory.md R61, spec/41_start.md R140, spec/42_address.md R150, spec/43_transmit_byte.md R160). -/
def Obligations.TransmitFrame : Prop :=
  ∀ (s t : State) (i : Instr), i = .start ∨ (∃ addr dir, i = .txaddr addr dir) ∨ (∃ byte, i = .txbyte byte) →
    exec i s = .next t →
    t.status = s.status ∧
      (s.fsm ∉ [.startCtl, .txaCtl, .txbCtl] → memRead 0 16 t = memRead 0 16 s) ∧ memRead 1 8 t = memRead 1 8 s ∧
      memRead 2 2 t = memRead 2 2 s ∧ (s.fsm ∉ [.txaData, .txbData] → memRead 3 8 t = memRead 3 8 s) ∧
      (i = .start → memRead 3 8 t = memRead 3 8 s) ∧
      (s.fsm ≠ .idle → t.lop = s.lop ∧ t.lmod = s.lmod ∧ t.limm = s.limm) ∧
      (s.fsm ∉ [.startChk, .txaChk, .txbChk] → t.tmp = s.tmp ∧ t.res = s.res) ∧
      (s.fsm ∉ [.idle, .startChk, .txaChk, .txbChk] → t.rvalid = s.rvalid) ∧
      t.cnt = s.cnt ∧ t.cmd = s.cmd ∧ t.cmdValid = s.cmdValid ∧ t.cfg = s.cfg ∧ t.turns = s.turns ∧ t.draws = s.draws

/-- RXBYTE (spec/20_memory.md R61, R67, spec/44_receive_and_guard.md R170): its writes are the two field writes, and it reads `DR`
without writing it. -/
def Obligations.ReceiveFrame : Prop :=
  ∀ (s t : State) (ack : AckPolicy), exec (.rxbyte ack) s = .next t →
    t.sta = s.sta ∧ t.sto = s.sto ∧ t.en = s.en ∧ t.status = s.status ∧ (s.fsm ≠ .rxEa → t.ea = s.ea) ∧
      (s.fsm ≠ .rxClr → t.int = s.int) ∧
      (s.fsm ∉ [.rxEa, .rxClr] → memRead 0 16 t = memRead 0 16 s) ∧ memRead 1 8 t = memRead 1 8 s ∧
      memRead 2 2 t = memRead 2 2 s ∧ memRead 3 8 t = memRead 3 8 s ∧
      (s.fsm ≠ .idle → t.lop = s.lop ∧ t.lmod = s.lmod ∧ t.limm = s.limm) ∧
      (s.fsm ∉ [.rxClr, .rxPoll] → t.cnt = s.cnt) ∧ (s.fsm ≠ .rxChk → t.tmp = s.tmp) ∧
      (s.fsm ∉ [.rxPoll, .rxChk, .rxData] → t.res = s.res) ∧
      (s.fsm ∉ [.idle, .rxPoll, .rxChk, .rxData] → t.rvalid = s.rvalid) ∧
      t.cmd = s.cmd ∧ t.cmdValid = s.cmdValid ∧ t.cfg = s.cfg ∧ t.turns = s.turns ∧ t.draws = s.draws

/-- WAITRDY and STOP (spec/20_memory.md R61, spec/44_receive_and_guard.md R178, spec/45_stop.md R190): WAITRDY writes no register
of the register space, STOP only CSR, and STOP never writes `RES`. -/
def Obligations.WaitAndStopFrame : Prop :=
  ∀ (s t : State) (i : Instr), i = .stop ∨ (∃ budget, i = .waitrdy budget) → exec i s = .next t →
    t.status = s.status ∧ (i ≠ .stop ∨ s.fsm ≠ .stopCtl → memRead 0 16 t = memRead 0 16 s) ∧
      memRead 1 8 t = memRead 1 8 s ∧ memRead 2 2 t = memRead 2 2 s ∧ memRead 3 8 t = memRead 3 8 s ∧
      (s.fsm ≠ .idle → t.lop = s.lop ∧ t.lmod = s.lmod ∧ t.limm = s.limm) ∧
      (i = .stop ∨ s.fsm ∉ [.idle, .wrPoll] → t.cnt = s.cnt) ∧ t.tmp = s.tmp ∧
      (i = .stop ∨ s.fsm ≠ .wrPoll → t.res = s.res) ∧
      (s.fsm ≠ .idle → (i = .stop ∨ s.fsm ≠ .wrPoll) → t.rvalid = s.rvalid) ∧
      t.cmd = s.cmd ∧ t.cmdValid = s.cmdValid ∧ t.cfg = s.cfg ∧ t.turns = s.turns ∧ t.draws = s.draws

/-! ### Whole operations: from the offer in IDLE to the completion -/

/-- INIT takes three steps after acceptance (spec/40_init.md R120, R121, R127; D6, D15, D16, D25), where the divisor has a stated value,
and where it has none, with a free value (log 10); and it cannot hang: from its first step it completes within three block turns,
with its registers written, whatever else the engine and the host do, reset apart. -/
def Obligations.InitCompletesInThreeSteps : Prop :=
  (∀ (s : State) (rest : List Turn) (freq : BitVec 32) (ps : BitVec 2), s.fsm = .idle → s.cmdValid = true →
    decode s.cmd = .ok (.init freq ps) → freq ≠ 0 → s.turns = List.replicate 4 .block ++ rest →
    (16 ≤ s.cfg.fRef / freq.toNat → run 4 s = .next { s with
        turns := rest
        lop := 1
        lmod := ps.zeroExtend 4
        limm := freq
        ps := ps
        br := BitVec.ofNat 8 ((s.cfg.fRef / freq.toNat - 16) / (2 * 4 ^ ps.toNat))
        en := true
        rvalid := false }) ∧
      (s.cfg.fRef / freq.toNat < 16 → run 4 s = .next { s with
        turns := rest
        lop := 1
        lmod := ps.zeroExtend 4
        limm := freq
        ps := ps
        br := Config.draw 8 s.draws
        draws := s.draws + 1
        en := true
        rvalid := false })) ∧
    ∀ s : State, s.fsm = .initPs → (∀ t ∈ s.turns, t ≠ .reset) → 3 ≤ s.turns.count .block →
      ∃ n t, n ≤ s.turns.length ∧ (s.turns.take n).count .block ≤ 3 ∧ run n s = .next t ∧ t.fsm = .idle ∧
        t.en = true ∧ t.ps = s.lmod.extractLsb' 0 2 ∧ t.res = s.res ∧ t.rvalid = s.rvalid ∧
        (16 ≤ s.cfg.fRef / s.limm.toNat →
          t.br = BitVec.ofNat 8 ((s.cfg.fRef / s.limm.toNat - 16) / (2 * 4 ^ (s.lmod.extractLsb' 0 2).toNat)))

/-- START with a bus engine that completes after `k` polls saw no flag (spec/41_start.md R140 to R143, R146; spec/95_test_vectors.md T1 to
T7; D5, D19, D22, D30). -/
def Obligations.StartCompletesWhenTheEngineDoes : Prop :=
  ∀ (s : State) (rest : List Turn) (k : Nat) (status data : Byte), s.fsm = .idle → s.cmdValid = true →
    decode s.cmd = .ok .start → s.sto = false →
    s.turns = List.replicate (k + 2) .block ++ [.complete status data, .block, .block] ++ rest →
    run (k + 5) s = .next { s with
      turns := rest
      lop := 2
      lmod := 0
      limm := 0
      int := true
      ea := false
      sta := true
      sto := false
      en := true
      status := status
      data := data
      tmp := status
      res := if status = s.cfg.stStart ∨ status = s.cfg.stRepStart then s.cfg.ok else status
      rvalid := true }

/-- TXADDR with a bus engine that completes after `k` polls saw no flag (spec/42_address.md R150 to R154, R156; 95 A1 to A10; D5, D19,
D22): `DR` takes the address byte before the control write, and the engine then delivers `data`. -/
def Obligations.TxaddrCompletesWhenTheEngineDoes : Prop :=
  ∀ (s : State) (rest : List Turn) (k : Nat) (addr : BitVec 7) (dir : BitVec 1) (status data : Byte), s.fsm = .idle →
    s.cmdValid = true → decode s.cmd = .ok (.txaddr addr dir) →
    s.turns = List.replicate (k + 3) .block ++ [.complete status data, .block, .block] ++ rest →
    (∃ u, run 2 s = .next u ∧ u.data = addr ++ dir ∧ u.int = s.int ∧ u.fsm = .txaCtl) ∧
      run (k + 6) s = .next { s with
        turns := rest
        lop := 3
        lmod := dir.zeroExtend 4
        limm := addr.zeroExtend 32
        int := true
        ea := false
        sta := false
        sto := false
        en := true
        status := status
        data := data
        tmp := status
        res := if status = (if dir = s.cfg.dirWrite then s.cfg.stMtSlaAck else s.cfg.stMrSlaAck) then s.cfg.ok
          else status
        rvalid := true }

/-- TXBYTE with a bus engine that completes after `k` polls saw no flag (spec/43_transmit_byte.md R160 to R164, R166; 95 B1 to B7; D5,
D19, D22). -/
def Obligations.TxbyteCompletesWhenTheEngineDoes : Prop :=
  ∀ (s : State) (rest : List Turn) (k : Nat) (byte status data : Byte), s.fsm = .idle → s.cmdValid = true →
    decode s.cmd = .ok (.txbyte byte) →
    s.turns = List.replicate (k + 3) .block ++ [.complete status data, .block, .block] ++ rest →
    (∃ u, run 2 s = .next u ∧ u.data = byte ∧ u.int = s.int ∧ u.fsm = .txbCtl) ∧
      run (k + 6) s = .next { s with
        turns := rest
        lop := 4
        lmod := 0
        limm := byte.zeroExtend 32
        int := true
        ea := false
        sta := false
        sto := false
        en := true
        status := status
        data := data
        tmp := status
        res := if status = s.cfg.stMtDataAck then s.cfg.ok else status
        rvalid := true }

/-- RXBYTE with a bus engine that completes after `k < 60` polls saw no flag (spec/44_receive_and_guard.md R170 to R176; 95 X1 to
X18; D7, D11, D12, D22): the byte under a status that the configured polarity accepts, else the transmission error. -/
def Obligations.RxbyteCompletesWhenTheEngineDoes : Prop :=
  ∀ (s : State) (rest : List Turn) (k : Nat) (ack : AckPolicy) (status data : Byte), s.fsm = .idle →
    s.cmdValid = true → decode s.cmd = .ok (.rxbyte ack) → s.en = true → k < 60 →
    (((status = s.cfg.stMrDataAck ∨ status = s.cfg.stMrDataNack) ↔ s.cfg.rxCheckInverted = false) →
      s.turns = List.replicate (k + 3) .block ++ [.complete status data, .block, .block, .block] ++ rest →
      run (k + 7) s = .next { s with
        turns := rest
        lop := 5
        lmod := if ack = .sendAck then 1 else 0
        limm := 0
        int := true
        ea := decide (ack = .sendAck)
        status := status
        data := data
        cnt := BitVec.ofNat 8 (60 - k)
        tmp := status
        res := data
        rvalid := true }) ∧
      (((status = s.cfg.stMrDataAck ∨ status = s.cfg.stMrDataNack) ↔ s.cfg.rxCheckInverted = true) →
        s.turns = List.replicate (k + 3) .block ++ [.complete status data, .block, .block] ++ rest →
        run (k + 6) s = .next { s with
          turns := rest
          lop := 5
          lmod := if ack = .sendAck then 1 else 0
          limm := 0
          int := true
          ea := decide (ack = .sendAck)
          status := status
          data := data
          cnt := BitVec.ofNat 8 (60 - k)
          tmp := status
          res := s.cfg.errTransmission
          rvalid := true })

/-- RXBYTE when 60 reads have all seen no flag (spec/44_receive_and_guard.md R177): the disconnected sentinel, with `STATUS`
and `DATA` unread and unchanged, and the engine still free to complete later. -/
def Obligations.RxbyteTimesOutAfterSixtyReads : Prop :=
  ∀ (s : State) (rest : List Turn) (ack : AckPolicy), s.fsm = .idle → s.cmdValid = true →
    decode s.cmd = .ok (.rxbyte ack) → s.turns = List.replicate 63 .block ++ rest →
    run 63 s = .next { s with
      turns := rest
      lop := 5
      lmod := if ack = .sendAck then 1 else 0
      limm := 0
      int := false
      ea := decide (ack = .sendAck)
      cnt := 0
      res := s.cfg.errBusDisconnected
      rvalid := true } ∧
    ∀ u status data, run 63 s = .next u → rest = [.complete status data] → s.en = true →
      step u = .next { u with turns := [], status := status, data := data, int := true }

/-- WAITRDY's verdict (spec/44_receive_and_guard.md R173, R178 to R180; 95 W1 to W14; D12, D13): budget 0 times out without a read,
even with the flag set; a flag already set is Ready at the first read; a flag set after `k` reads, `k` below the budget, is
Ready at read `k + 1` with `CNT` = budget − k; a flag never set times out after exactly `budget` reads. -/
def Obligations.WaitrdyTimesOutExactlyWhenTheBudgetRunsOut : Prop :=
  ∀ (s : State) (rest : List Turn) (b : Byte), s.fsm = .idle → s.cmdValid = true → decode s.cmd = .ok (.waitrdy b) →
    (b = 0 → s.turns = [.block, .block] ++ rest → run 2 s = .next { s with
      turns := rest, lop := 7, lmod := 0, limm := 0, cnt := 0, res := s.cfg.errBusDisconnected, rvalid := true }) ∧
      (b ≠ 0 → s.int = true → s.turns = [.block, .block] ++ rest → run 2 s = .next { s with
        turns := rest, lop := 7, lmod := 0, limm := b.zeroExtend 32, cnt := b, res := s.cfg.ok, rvalid := true }) ∧
      (∀ k status data, k < b.toNat → s.int = false → s.en = true →
        s.turns = List.replicate (k + 1) .block ++ [.complete status data, .block] ++ rest →
        run (k + 3) s = .next { s with
          turns := rest
          lop := 7
          lmod := 0
          limm := b.zeroExtend 32
          cnt := BitVec.ofNat 8 (b.toNat - k)
          int := true
          status := status
          data := data
          res := s.cfg.ok
          rvalid := true }) ∧
      (b ≠ 0 → s.int = false → s.turns = List.replicate (b.toNat + 1) .block ++ rest →
        run (b.toNat + 1) s = .next { s with
          turns := rest
          lop := 7
          lmod := 0
          limm := b.zeroExtend 32
          cnt := 0
          res := s.cfg.errBusDisconnected
          rvalid := true })

/-- STOP takes one step after acceptance, in any control state, and completes without a result; the stop itself completes at the
engine's *stop-done* (spec/45_stop.md R190 to R193; 95 Q1 to Q5; D5, D22). It cannot hang: it completes at the block's first turn,
whatever else the engine and the host do before, reset apart. -/
def Obligations.StopCompletesInOneStep : Prop :=
  (∀ (s : State) (rest : List Turn), s.fsm = .idle → s.cmdValid = true → decode s.cmd = .ok .stop →
    (s.turns = [.block, .block] ++ rest → run 2 s = .next { s with
      turns := rest
      lop := 6
      lmod := 0
      limm := 0
      int := false
      ea := false
      sta := false
      sto := true
      en := true
      rvalid := false }) ∧
      (s.turns = [.block, .block, .stopDone] ++ rest → run 3 s = .next { s with
        turns := rest
        lop := 6
        lmod := 0
        limm := 0
        int := false
        ea := false
        sta := false
        sto := false
        en := true
        rvalid := false })) ∧
    ∀ s : State, s.fsm = .stopCtl → (∀ t ∈ s.turns, t ≠ .reset) → 1 ≤ s.turns.count .block →
      ∃ n t, n ≤ s.turns.length ∧ (s.turns.take n).count .block ≤ 1 ∧ run n s = .next t ∧ t.fsm = .idle ∧
        t.int = false ∧ t.ea = false ∧ t.sta = false ∧ t.sto = true ∧ t.en = true ∧ t.res = s.res ∧ t.rvalid = s.rvalid

/-- The hang (spec/41_start.md R144, spec/42_address.md R155, spec/43_transmit_byte.md R165): as long as the engine takes no *complete*
step and the host asserts no reset, the FSM stays in the poll state; `BUSY` stays 1, no result is produced and no later
command is accepted; a reset then ends it. -/
def Obligations.UnboundedPollHangsOnADeadBus : Prop :=
  ∀ (n : Nat) (s : State), s.fsm ∈ [.startPoll, .txaPoll, .txbPoll] → s.int = false → n ≤ s.turns.length →
    (∀ t ∈ s.turns.take n, t ≠ .reset ∧ ∀ status data, t ≠ .complete status data) →
    ∃ u, run n s = .next u ∧ u.fsm = s.fsm ∧ u.busy = true ∧ u.int = false ∧
      u.res = s.res ∧ u.rvalid = s.rvalid ∧ u.latchedWord = s.latchedWord ∧
      ∀ ts, u.turns = .reset :: ts → ∃ v, step u = .next v ∧ v.fsm = .idle ∧ v.busy = false

/-- The bounded operations always complete (spec/44_receive_and_guard.md R185, R178, R179; D12): from RXBYTE's first step within 64
block turns and from WAITRDY's first step within max(1, CNT) block turns, whatever else the engine and the host do, reset
apart. -/
def Obligations.BoundedOperationsAlwaysComplete : Prop :=
  ∀ s : State, (∀ t ∈ s.turns, t ≠ .reset) →
    (s.fsm = .rxEa → 64 ≤ s.turns.count .block →
      ∃ n t, n ≤ s.turns.length ∧ (s.turns.take n).count .block ≤ 64 ∧
        run n s = .next t ∧ t.fsm = .idle ∧ t.rvalid = true) ∧
      (s.fsm = .wrPoll → max 1 s.cnt.toNat ≤ s.turns.count .block →
        ∃ n t, n ≤ s.turns.length ∧ (s.turns.take n).count .block ≤ max 1 s.cnt.toNat ∧
          run n s = .next t ∧ t.fsm = .idle ∧ t.rvalid = true ∧
          (t.res = s.cfg.ok ∨ t.res = s.cfg.errBusDisconnected))

/-- With the acknowledging peripheral the five bus operations of R77 succeed (spec/20_memory.md R77, D22; spec/95_test_vectors.md S2): START,
TXADDR and TXBYTE return `OK`, TXADDR and TXBYTE leave the written byte in `DR`, RXBYTE returns the peripheral's next byte (under
`RX_CHECK_INVERTED` = false, D11, and `EN` = 1), and STOP's stop is done. -/
def Obligations.AcknowledgedOperationsSucceed : Prop :=
  ∀ (s : State) (p : Peripheral),
    (s.fsm = .startCtl → ∃ t, ackRun 3 p s = .next t ∧ t.fsm = .idle ∧ t.res = s.cfg.ok ∧ t.rvalid = true) ∧
      (∀ addr dir, s.inFlight = some (.txaddr addr dir) → s.fsm = .txaData →
        ∃ t, ackRun 4 p s = .next t ∧ t.fsm = .idle ∧ t.res = s.cfg.ok ∧ t.rvalid = true ∧ t.data = addr ++ dir) ∧
      (∀ byte, s.inFlight = some (.txbyte byte) → s.fsm = .txbData →
        ∃ t, ackRun 4 p s = .next t ∧ t.fsm = .idle ∧ t.res = s.cfg.ok ∧ t.rvalid = true ∧ t.data = byte) ∧
      (∀ b bs, s.fsm = .rxEa → p.script = b :: bs → s.en = true → s.cfg.rxCheckInverted = false →
        ∃ t, ackRun 5 p s = .next t ∧ t.fsm = .idle ∧ t.res = b ∧ t.rvalid = true) ∧
      (s.fsm = .stopCtl → ∃ t, ackRun 1 p s = .next t ∧ t.fsm = .idle ∧ t.sto = false ∧ t.rvalid = s.rvalid)

/-! ### Whole-machine rules -/

/-- Every step, of any agent, keeps the invariant `Inv` (spec/10_state.md R25, R36 to R38, R42; spec/20_memory.md R66, R72, R75;
spec/44_receive_and_guard.md R171 to R174, R179), from every state that meets it. -/
def Obligations.StepKeepsInvariant : Prop := ∀ s t : State, Inv s → step s = .next t → Inv t

/-- The state after reset meets the invariant (spec/10_state.md R46). -/
def Obligations.ResetMeetsInvariant : Prop := Inv State.reset

/-- The parameters are fixed for a run (spec/10_state.md R45, spec/00_scope.md R9): no step of any agent writes the configuration
(that it stands in State is the model's own, log 2). -/
def Obligations.ConfigurationIsFixedForARun : Prop :=
  ∀ (n : Nat) (s t : State), run n s = .next t → t.cfg = s.cfg

/-- The life of `INT` (spec/60_exceptions.md R204, spec/10_state.md R25): set only by a *complete* step, with its status, while `EN` = 1;
cleared only by the control writes, by RXBYTE's flag-clear and by reset, and always by those; a step of no other kind changes it. -/
def Obligations.FlagIsSetAndClearedOnlyAsStated : Prop :=
  ∀ s t : State, step s = .next t →
    (s.int = false → t.int = true →
      ∃ status data, (takeTurn s).1 = .complete status data ∧ s.en = true ∧ t.status = status) ∧
      (s.int = true → t.int = false → (takeTurn s).1 = .reset ∨
        (takeTurn s).1 = .block ∧ s.fsm ∈ [.startCtl, .txaCtl, .txbCtl, .rxClr, .stopCtl]) ∧
      ((takeTurn s).1 = .block → s.fsm ∈ [.startCtl, .txaCtl, .txbCtl, .rxClr, .stopCtl] → t.int = false) ∧
      ((takeTurn s).1 = .reset → t.int = false)

/-- `EN` is set by INIT's last step and by every whole control write, and cleared by nothing but reset (spec/10_state.md R29,
spec/20_memory.md R75, spec/60_exceptions.md R218). -/
def Obligations.EnableIsClearedOnlyByReset : Prop :=
  ∀ s t : State, step s = .next t →
    (s.en = true → t.en = false → (takeTurn s).1 = .reset) ∧
      (s.en = false → t.en = true →
        (takeTurn s).1 = .block ∧ s.fsm ∈ [.initEn, .startCtl, .txaCtl, .txbCtl, .stopCtl]) ∧
      ((takeTurn s).1 = .block → s.fsm ∈ [.initEn, .startCtl, .txaCtl, .txbCtl, .stopCtl] → t.en = true)

/-- While `INT` = 1, `STATUS` does not change and `DATA` changes only by the FSM's own writes of `DR` (spec/20_memory.md R72, D22; reset,
R47, apart). -/
def Obligations.StatusIsStableWhileReady : Prop :=
  ∀ s t : State, step s = .next t → s.int = true → (takeTurn s).1 ≠ .reset →
    t.status = s.status ∧ (t.data ≠ s.data → (takeTurn s).1 = .block ∧ s.fsm ∈ [.txaData, .txbData])

/-- `RES` and `RVALID` (spec/10_state.md R41, R42, spec/30_encoding.md R108, D19): written by the completion of a value-returning
operation and by reset only, but for acceptance, which clears `RVALID`; a completion leaves the block idle. -/
def Obligations.ResultIsWrittenOnlyByCompletion : Prop :=
  ∀ s t : State, step s = .next t → (takeTurn s).1 ≠ .reset →
    (t.res ≠ s.res ∨ s.rvalid = false ∧ t.rvalid = true →
      (takeTurn s).1 = .block ∧ s.fsm ∈ [.startChk, .txaChk, .txbChk, .rxPoll, .rxChk, .rxData, .wrPoll] ∧
        t.fsm = .idle ∧ t.rvalid = true) ∧
      (s.rvalid = true → t.rvalid = false →
        (takeTurn s).1 = .block ∧ s.fsm = .idle ∧ s.cmdValid = true ∧ t.busy = true)

/-- A running operation cannot see the host's lines (spec/10_state.md R38, spec/20_memory.md R80, D31): changing them changes the step in
nothing else, and the latches keep the accepted word until the operation ends. -/
def Obligations.RunningOperationIgnoresTheHostLines : Prop :=
  ∀ (s : State) (ts : List Turn), s.busy = true → s.turns = .block :: ts →
    ∃ t, step s = .next t ∧ t.latchedWord = s.latchedWord ∧
      ∀ w v, step { s with cmd := w, cmdValid := v } = .next { t with cmd := w, cmdValid := v }

/-- The FSM never reads `BRR` or `PSR` (spec/20_memory.md R61, spec/10_state.md R32, R33): outside the two steps of INIT that write them,
changing their contents changes the block's step in nothing else. -/
def Obligations.BlockNeverReadsTheDivider : Prop :=
  ∀ (s t : State) (ts : List Turn) (b : Byte) (p : BitVec 2), s.turns = .block :: ts →
    s.fsm ∉ [.initPs, .initBr] → step s = .next t → step { s with br := b, ps := p } = .next { t with br := b, ps := p }

/-- `OK` means success (spec/70_reset_and_hazards.md R244, spec/00_scope.md R10 (c); D9, read as log 23 says): under a well-formed
configuration and a status of the hardware's form, START, TXADDR and TXBYTE end with `OK` exactly on a success status. -/
def Obligations.OkMeansSuccess : Prop :=
  ∀ s : State, s.cfg.wf = true → Config.hardwareStatusForm s.status = true →
    (s.fsm = .startChk → ∃ t, exec .start s = .next t ∧
      (t.res = s.cfg.ok ↔ s.status = s.cfg.stStart ∨ s.status = s.cfg.stRepStart)) ∧
      (∀ addr dir, s.fsm = .txaChk → ∃ t, exec (.txaddr addr dir) s = .next t ∧
        (t.res = s.cfg.ok ↔ s.status = if dir = s.cfg.dirWrite then s.cfg.stMtSlaAck else s.cfg.stMrSlaAck)) ∧
      ∀ byte, s.fsm = .txbChk → ∃ t, exec (.txbyte byte) s = .next t ∧
        (t.res = s.cfg.ok ↔ s.status = s.cfg.stMtDataAck)

/-- The host's lines (spec/30_encoding.md R106; D19): an offer drives `cmd` to the word and `cmd_valid` to 1, a withdrawal drives
`cmd_valid` to 0, each changing nothing else; and no move of the block, the engine or reset changes either line (log 18). -/
def Obligations.HostLinesAreWrittenByTheHostOnly : Prop :=
  (∀ (s : State) (ts : List Turn),
    (∀ w, s.turns = .offer w :: ts → step s = .next { s with turns := ts, cmd := w, cmdValid := true }) ∧
      (s.turns = .withdraw :: ts → step s = .next { s with turns := ts, cmdValid := false })) ∧
    ∀ s t : State, step s = .next t → (∀ w, (takeTurn s).1 ≠ .offer w) → (takeTurn s).1 ≠ .withdraw →
      t.cmd = s.cmd ∧ t.cmdValid = s.cmdValid
end

