-- ==== Sys2Proof/Laws/State.lean ====
section
/-! SUPPORT. One lemma per field per named update of State, true by rfl, so that no proof unfolds an update. -/

namespace Sys2Proof.Machine

@[simp] theorem State.goto_int (m : MicroState) (s : State) :
    (s.goto m).int = s.int := rfl
@[simp] theorem State.goto_ea (m : MicroState) (s : State) :
    (s.goto m).ea = s.ea := rfl
@[simp] theorem State.goto_sta (m : MicroState) (s : State) :
    (s.goto m).sta = s.sta := rfl
@[simp] theorem State.goto_sto (m : MicroState) (s : State) :
    (s.goto m).sto = s.sto := rfl
@[simp] theorem State.goto_en (m : MicroState) (s : State) :
    (s.goto m).en = s.en := rfl
@[simp] theorem State.goto_status (m : MicroState) (s : State) :
    (s.goto m).status = s.status := rfl
@[simp] theorem State.goto_br (m : MicroState) (s : State) :
    (s.goto m).br = s.br := rfl
@[simp] theorem State.goto_ps (m : MicroState) (s : State) :
    (s.goto m).ps = s.ps := rfl
@[simp] theorem State.goto_data (m : MicroState) (s : State) :
    (s.goto m).data = s.data := rfl
@[simp] theorem State.goto_fsm (m : MicroState) (s : State) :
    (s.goto m).fsm = m := rfl
@[simp] theorem State.goto_cnt (m : MicroState) (s : State) :
    (s.goto m).cnt = s.cnt := rfl
@[simp] theorem State.goto_lop (m : MicroState) (s : State) :
    (s.goto m).lop = s.lop := rfl
@[simp] theorem State.goto_lmod (m : MicroState) (s : State) :
    (s.goto m).lmod = s.lmod := rfl
@[simp] theorem State.goto_limm (m : MicroState) (s : State) :
    (s.goto m).limm = s.limm := rfl
@[simp] theorem State.goto_tmp (m : MicroState) (s : State) :
    (s.goto m).tmp = s.tmp := rfl
@[simp] theorem State.goto_res (m : MicroState) (s : State) :
    (s.goto m).res = s.res := rfl
@[simp] theorem State.goto_rvalid (m : MicroState) (s : State) :
    (s.goto m).rvalid = s.rvalid := rfl
@[simp] theorem State.goto_cmd (m : MicroState) (s : State) :
    (s.goto m).cmd = s.cmd := rfl
@[simp] theorem State.goto_cmdValid (m : MicroState) (s : State) :
    (s.goto m).cmdValid = s.cmdValid := rfl
@[simp] theorem State.goto_cfg (m : MicroState) (s : State) :
    (s.goto m).cfg = s.cfg := rfl
@[simp] theorem State.goto_turns (m : MicroState) (s : State) :
    (s.goto m).turns = s.turns := rfl
@[simp] theorem State.goto_draws (m : MicroState) (s : State) :
    (s.goto m).draws = s.draws := rfl

@[simp] theorem State.complete_int (v : Byte) (s : State) :
    (s.complete v).int = s.int := rfl
@[simp] theorem State.complete_ea (v : Byte) (s : State) :
    (s.complete v).ea = s.ea := rfl
@[simp] theorem State.complete_sta (v : Byte) (s : State) :
    (s.complete v).sta = s.sta := rfl
@[simp] theorem State.complete_sto (v : Byte) (s : State) :
    (s.complete v).sto = s.sto := rfl
@[simp] theorem State.complete_en (v : Byte) (s : State) :
    (s.complete v).en = s.en := rfl
@[simp] theorem State.complete_status (v : Byte) (s : State) :
    (s.complete v).status = s.status := rfl
@[simp] theorem State.complete_br (v : Byte) (s : State) :
    (s.complete v).br = s.br := rfl
@[simp] theorem State.complete_ps (v : Byte) (s : State) :
    (s.complete v).ps = s.ps := rfl
@[simp] theorem State.complete_data (v : Byte) (s : State) :
    (s.complete v).data = s.data := rfl
@[simp] theorem State.complete_fsm (v : Byte) (s : State) :
    (s.complete v).fsm = .idle := rfl
@[simp] theorem State.complete_cnt (v : Byte) (s : State) :
    (s.complete v).cnt = s.cnt := rfl
@[simp] theorem State.complete_lop (v : Byte) (s : State) :
    (s.complete v).lop = s.lop := rfl
@[simp] theorem State.complete_lmod (v : Byte) (s : State) :
    (s.complete v).lmod = s.lmod := rfl
@[simp] theorem State.complete_limm (v : Byte) (s : State) :
    (s.complete v).limm = s.limm := rfl
@[simp] theorem State.complete_tmp (v : Byte) (s : State) :
    (s.complete v).tmp = s.tmp := rfl
@[simp] theorem State.complete_res (v : Byte) (s : State) :
    (s.complete v).res = v := rfl
@[simp] theorem State.complete_rvalid (v : Byte) (s : State) :
    (s.complete v).rvalid = true := rfl
@[simp] theorem State.complete_cmd (v : Byte) (s : State) :
    (s.complete v).cmd = s.cmd := rfl
@[simp] theorem State.complete_cmdValid (v : Byte) (s : State) :
    (s.complete v).cmdValid = s.cmdValid := rfl
@[simp] theorem State.complete_cfg (v : Byte) (s : State) :
    (s.complete v).cfg = s.cfg := rfl
@[simp] theorem State.complete_turns (v : Byte) (s : State) :
    (s.complete v).turns = s.turns := rfl
@[simp] theorem State.complete_draws (v : Byte) (s : State) :
    (s.complete v).draws = s.draws := rfl

@[simp] theorem State.completeVoid_int (s : State) :
    s.completeVoid.int = s.int := rfl
@[simp] theorem State.completeVoid_ea (s : State) :
    s.completeVoid.ea = s.ea := rfl
@[simp] theorem State.completeVoid_sta (s : State) :
    s.completeVoid.sta = s.sta := rfl
@[simp] theorem State.completeVoid_sto (s : State) :
    s.completeVoid.sto = s.sto := rfl
@[simp] theorem State.completeVoid_en (s : State) :
    s.completeVoid.en = s.en := rfl
@[simp] theorem State.completeVoid_status (s : State) :
    s.completeVoid.status = s.status := rfl
@[simp] theorem State.completeVoid_br (s : State) :
    s.completeVoid.br = s.br := rfl
@[simp] theorem State.completeVoid_ps (s : State) :
    s.completeVoid.ps = s.ps := rfl
@[simp] theorem State.completeVoid_data (s : State) :
    s.completeVoid.data = s.data := rfl
@[simp] theorem State.completeVoid_fsm (s : State) :
    s.completeVoid.fsm = .idle := rfl
@[simp] theorem State.completeVoid_cnt (s : State) :
    s.completeVoid.cnt = s.cnt := rfl
@[simp] theorem State.completeVoid_lop (s : State) :
    s.completeVoid.lop = s.lop := rfl
@[simp] theorem State.completeVoid_lmod (s : State) :
    s.completeVoid.lmod = s.lmod := rfl
@[simp] theorem State.completeVoid_limm (s : State) :
    s.completeVoid.limm = s.limm := rfl
@[simp] theorem State.completeVoid_tmp (s : State) :
    s.completeVoid.tmp = s.tmp := rfl
@[simp] theorem State.completeVoid_res (s : State) :
    s.completeVoid.res = s.res := rfl
@[simp] theorem State.completeVoid_rvalid (s : State) :
    s.completeVoid.rvalid = s.rvalid := rfl
@[simp] theorem State.completeVoid_cmd (s : State) :
    s.completeVoid.cmd = s.cmd := rfl
@[simp] theorem State.completeVoid_cmdValid (s : State) :
    s.completeVoid.cmdValid = s.cmdValid := rfl
@[simp] theorem State.completeVoid_cfg (s : State) :
    s.completeVoid.cfg = s.cfg := rfl
@[simp] theorem State.completeVoid_turns (s : State) :
    s.completeVoid.turns = s.turns := rfl
@[simp] theorem State.completeVoid_draws (s : State) :
    s.completeVoid.draws = s.draws := rfl

@[simp] theorem State.accept_int (i : Instr) (s : State) :
    (s.accept i).int = s.int := rfl
@[simp] theorem State.accept_ea (i : Instr) (s : State) :
    (s.accept i).ea = s.ea := rfl
@[simp] theorem State.accept_sta (i : Instr) (s : State) :
    (s.accept i).sta = s.sta := rfl
@[simp] theorem State.accept_sto (i : Instr) (s : State) :
    (s.accept i).sto = s.sto := rfl
@[simp] theorem State.accept_en (i : Instr) (s : State) :
    (s.accept i).en = s.en := rfl
@[simp] theorem State.accept_status (i : Instr) (s : State) :
    (s.accept i).status = s.status := rfl
@[simp] theorem State.accept_br (i : Instr) (s : State) :
    (s.accept i).br = s.br := rfl
@[simp] theorem State.accept_ps (i : Instr) (s : State) :
    (s.accept i).ps = s.ps := rfl
@[simp] theorem State.accept_data (i : Instr) (s : State) :
    (s.accept i).data = s.data := rfl
@[simp] theorem State.accept_fsm (i : Instr) (s : State) :
    (s.accept i).fsm = firstState i := rfl
@[simp] theorem State.accept_cnt (i : Instr) (s : State) :
    (s.accept i).cnt = s.cnt := rfl
@[simp] theorem State.accept_lop (i : Instr) (s : State) :
    (s.accept i).lop = CmdWord.op (encode i) := rfl
@[simp] theorem State.accept_lmod (i : Instr) (s : State) :
    (s.accept i).lmod = CmdWord.modifier (encode i) := rfl
@[simp] theorem State.accept_limm (i : Instr) (s : State) :
    (s.accept i).limm = CmdWord.imm (encode i) := rfl
@[simp] theorem State.accept_tmp (i : Instr) (s : State) :
    (s.accept i).tmp = s.tmp := rfl
@[simp] theorem State.accept_res (i : Instr) (s : State) :
    (s.accept i).res = s.res := rfl
@[simp] theorem State.accept_rvalid (i : Instr) (s : State) :
    (s.accept i).rvalid = false := rfl
@[simp] theorem State.accept_cmd (i : Instr) (s : State) :
    (s.accept i).cmd = s.cmd := rfl
@[simp] theorem State.accept_cmdValid (i : Instr) (s : State) :
    (s.accept i).cmdValid = s.cmdValid := rfl
@[simp] theorem State.accept_cfg (i : Instr) (s : State) :
    (s.accept i).cfg = s.cfg := rfl
@[simp] theorem State.accept_turns (i : Instr) (s : State) :
    (s.accept i).turns = s.turns := rfl
@[simp] theorem State.accept_draws (i : Instr) (s : State) :
    (s.accept i).draws = s.draws := rfl

@[simp] theorem State.fieldWriteEn_int (b : Bool) (s : State) :
    (s.fieldWrite (.en b)).int = s.int := rfl
@[simp] theorem State.fieldWriteEn_ea (b : Bool) (s : State) :
    (s.fieldWrite (.en b)).ea = s.ea := rfl
@[simp] theorem State.fieldWriteEn_sta (b : Bool) (s : State) :
    (s.fieldWrite (.en b)).sta = s.sta := rfl
@[simp] theorem State.fieldWriteEn_sto (b : Bool) (s : State) :
    (s.fieldWrite (.en b)).sto = s.sto := rfl
@[simp] theorem State.fieldWriteEn_en (b : Bool) (s : State) :
    (s.fieldWrite (.en b)).en = b := rfl
@[simp] theorem State.fieldWriteEn_status (b : Bool) (s : State) :
    (s.fieldWrite (.en b)).status = s.status := rfl
@[simp] theorem State.fieldWriteEn_br (b : Bool) (s : State) :
    (s.fieldWrite (.en b)).br = s.br := rfl
@[simp] theorem State.fieldWriteEn_ps (b : Bool) (s : State) :
    (s.fieldWrite (.en b)).ps = s.ps := rfl
@[simp] theorem State.fieldWriteEn_data (b : Bool) (s : State) :
    (s.fieldWrite (.en b)).data = s.data := rfl
@[simp] theorem State.fieldWriteEn_fsm (b : Bool) (s : State) :
    (s.fieldWrite (.en b)).fsm = s.fsm := rfl
@[simp] theorem State.fieldWriteEn_cnt (b : Bool) (s : State) :
    (s.fieldWrite (.en b)).cnt = s.cnt := rfl
@[simp] theorem State.fieldWriteEn_lop (b : Bool) (s : State) :
    (s.fieldWrite (.en b)).lop = s.lop := rfl
@[simp] theorem State.fieldWriteEn_lmod (b : Bool) (s : State) :
    (s.fieldWrite (.en b)).lmod = s.lmod := rfl
@[simp] theorem State.fieldWriteEn_limm (b : Bool) (s : State) :
    (s.fieldWrite (.en b)).limm = s.limm := rfl
@[simp] theorem State.fieldWriteEn_tmp (b : Bool) (s : State) :
    (s.fieldWrite (.en b)).tmp = s.tmp := rfl
@[simp] theorem State.fieldWriteEn_res (b : Bool) (s : State) :
    (s.fieldWrite (.en b)).res = s.res := rfl
@[simp] theorem State.fieldWriteEn_rvalid (b : Bool) (s : State) :
    (s.fieldWrite (.en b)).rvalid = s.rvalid := rfl
@[simp] theorem State.fieldWriteEn_cmd (b : Bool) (s : State) :
    (s.fieldWrite (.en b)).cmd = s.cmd := rfl
@[simp] theorem State.fieldWriteEn_cmdValid (b : Bool) (s : State) :
    (s.fieldWrite (.en b)).cmdValid = s.cmdValid := rfl
@[simp] theorem State.fieldWriteEn_cfg (b : Bool) (s : State) :
    (s.fieldWrite (.en b)).cfg = s.cfg := rfl
@[simp] theorem State.fieldWriteEn_turns (b : Bool) (s : State) :
    (s.fieldWrite (.en b)).turns = s.turns := rfl
@[simp] theorem State.fieldWriteEn_draws (b : Bool) (s : State) :
    (s.fieldWrite (.en b)).draws = s.draws := rfl

@[simp] theorem State.fieldWriteEa_int (b : Bool) (s : State) :
    (s.fieldWrite (.ea b)).int = s.int := rfl
@[simp] theorem State.fieldWriteEa_ea (b : Bool) (s : State) :
    (s.fieldWrite (.ea b)).ea = b := rfl
@[simp] theorem State.fieldWriteEa_sta (b : Bool) (s : State) :
    (s.fieldWrite (.ea b)).sta = s.sta := rfl
@[simp] theorem State.fieldWriteEa_sto (b : Bool) (s : State) :
    (s.fieldWrite (.ea b)).sto = s.sto := rfl
@[simp] theorem State.fieldWriteEa_en (b : Bool) (s : State) :
    (s.fieldWrite (.ea b)).en = s.en := rfl
@[simp] theorem State.fieldWriteEa_status (b : Bool) (s : State) :
    (s.fieldWrite (.ea b)).status = s.status := rfl
@[simp] theorem State.fieldWriteEa_br (b : Bool) (s : State) :
    (s.fieldWrite (.ea b)).br = s.br := rfl
@[simp] theorem State.fieldWriteEa_ps (b : Bool) (s : State) :
    (s.fieldWrite (.ea b)).ps = s.ps := rfl
@[simp] theorem State.fieldWriteEa_data (b : Bool) (s : State) :
    (s.fieldWrite (.ea b)).data = s.data := rfl
@[simp] theorem State.fieldWriteEa_fsm (b : Bool) (s : State) :
    (s.fieldWrite (.ea b)).fsm = s.fsm := rfl
@[simp] theorem State.fieldWriteEa_cnt (b : Bool) (s : State) :
    (s.fieldWrite (.ea b)).cnt = s.cnt := rfl
@[simp] theorem State.fieldWriteEa_lop (b : Bool) (s : State) :
    (s.fieldWrite (.ea b)).lop = s.lop := rfl
@[simp] theorem State.fieldWriteEa_lmod (b : Bool) (s : State) :
    (s.fieldWrite (.ea b)).lmod = s.lmod := rfl
@[simp] theorem State.fieldWriteEa_limm (b : Bool) (s : State) :
    (s.fieldWrite (.ea b)).limm = s.limm := rfl
@[simp] theorem State.fieldWriteEa_tmp (b : Bool) (s : State) :
    (s.fieldWrite (.ea b)).tmp = s.tmp := rfl
@[simp] theorem State.fieldWriteEa_res (b : Bool) (s : State) :
    (s.fieldWrite (.ea b)).res = s.res := rfl
@[simp] theorem State.fieldWriteEa_rvalid (b : Bool) (s : State) :
    (s.fieldWrite (.ea b)).rvalid = s.rvalid := rfl
@[simp] theorem State.fieldWriteEa_cmd (b : Bool) (s : State) :
    (s.fieldWrite (.ea b)).cmd = s.cmd := rfl
@[simp] theorem State.fieldWriteEa_cmdValid (b : Bool) (s : State) :
    (s.fieldWrite (.ea b)).cmdValid = s.cmdValid := rfl
@[simp] theorem State.fieldWriteEa_cfg (b : Bool) (s : State) :
    (s.fieldWrite (.ea b)).cfg = s.cfg := rfl
@[simp] theorem State.fieldWriteEa_turns (b : Bool) (s : State) :
    (s.fieldWrite (.ea b)).turns = s.turns := rfl
@[simp] theorem State.fieldWriteEa_draws (b : Bool) (s : State) :
    (s.fieldWrite (.ea b)).draws = s.draws := rfl

@[simp] theorem State.fieldWriteFlagClear_int (s : State) :
    (s.fieldWrite .flagClear).int = false := rfl
@[simp] theorem State.fieldWriteFlagClear_ea (s : State) :
    (s.fieldWrite .flagClear).ea = s.ea := rfl
@[simp] theorem State.fieldWriteFlagClear_sta (s : State) :
    (s.fieldWrite .flagClear).sta = s.sta := rfl
@[simp] theorem State.fieldWriteFlagClear_sto (s : State) :
    (s.fieldWrite .flagClear).sto = s.sto := rfl
@[simp] theorem State.fieldWriteFlagClear_en (s : State) :
    (s.fieldWrite .flagClear).en = s.en := rfl
@[simp] theorem State.fieldWriteFlagClear_status (s : State) :
    (s.fieldWrite .flagClear).status = s.status := rfl
@[simp] theorem State.fieldWriteFlagClear_br (s : State) :
    (s.fieldWrite .flagClear).br = s.br := rfl
@[simp] theorem State.fieldWriteFlagClear_ps (s : State) :
    (s.fieldWrite .flagClear).ps = s.ps := rfl
@[simp] theorem State.fieldWriteFlagClear_data (s : State) :
    (s.fieldWrite .flagClear).data = s.data := rfl
@[simp] theorem State.fieldWriteFlagClear_fsm (s : State) :
    (s.fieldWrite .flagClear).fsm = s.fsm := rfl
@[simp] theorem State.fieldWriteFlagClear_cnt (s : State) :
    (s.fieldWrite .flagClear).cnt = s.cnt := rfl
@[simp] theorem State.fieldWriteFlagClear_lop (s : State) :
    (s.fieldWrite .flagClear).lop = s.lop := rfl
@[simp] theorem State.fieldWriteFlagClear_lmod (s : State) :
    (s.fieldWrite .flagClear).lmod = s.lmod := rfl
@[simp] theorem State.fieldWriteFlagClear_limm (s : State) :
    (s.fieldWrite .flagClear).limm = s.limm := rfl
@[simp] theorem State.fieldWriteFlagClear_tmp (s : State) :
    (s.fieldWrite .flagClear).tmp = s.tmp := rfl
@[simp] theorem State.fieldWriteFlagClear_res (s : State) :
    (s.fieldWrite .flagClear).res = s.res := rfl
@[simp] theorem State.fieldWriteFlagClear_rvalid (s : State) :
    (s.fieldWrite .flagClear).rvalid = s.rvalid := rfl
@[simp] theorem State.fieldWriteFlagClear_cmd (s : State) :
    (s.fieldWrite .flagClear).cmd = s.cmd := rfl
@[simp] theorem State.fieldWriteFlagClear_cmdValid (s : State) :
    (s.fieldWrite .flagClear).cmdValid = s.cmdValid := rfl
@[simp] theorem State.fieldWriteFlagClear_cfg (s : State) :
    (s.fieldWrite .flagClear).cfg = s.cfg := rfl
@[simp] theorem State.fieldWriteFlagClear_turns (s : State) :
    (s.fieldWrite .flagClear).turns = s.turns := rfl
@[simp] theorem State.fieldWriteFlagClear_draws (s : State) :
    (s.fieldWrite .flagClear).draws = s.draws := rfl

@[simp] theorem State.writeCsr_int (v : CsrWord) (s : State) :
    (s.writeCsr v).int = if v.getLsbD 7 then false else s.int := rfl
@[simp] theorem State.writeCsr_ea (v : CsrWord) (s : State) :
    (s.writeCsr v).ea = v.getLsbD 6 := rfl
@[simp] theorem State.writeCsr_sta (v : CsrWord) (s : State) :
    (s.writeCsr v).sta = v.getLsbD 5 := rfl
@[simp] theorem State.writeCsr_sto (v : CsrWord) (s : State) :
    (s.writeCsr v).sto = v.getLsbD 4 := rfl
@[simp] theorem State.writeCsr_en (v : CsrWord) (s : State) :
    (s.writeCsr v).en = v.getLsbD 2 := rfl
@[simp] theorem State.writeCsr_status (v : CsrWord) (s : State) :
    (s.writeCsr v).status = s.status := rfl
@[simp] theorem State.writeCsr_br (v : CsrWord) (s : State) :
    (s.writeCsr v).br = s.br := rfl
@[simp] theorem State.writeCsr_ps (v : CsrWord) (s : State) :
    (s.writeCsr v).ps = s.ps := rfl
@[simp] theorem State.writeCsr_data (v : CsrWord) (s : State) :
    (s.writeCsr v).data = s.data := rfl
@[simp] theorem State.writeCsr_fsm (v : CsrWord) (s : State) :
    (s.writeCsr v).fsm = s.fsm := rfl
@[simp] theorem State.writeCsr_cnt (v : CsrWord) (s : State) :
    (s.writeCsr v).cnt = s.cnt := rfl
@[simp] theorem State.writeCsr_lop (v : CsrWord) (s : State) :
    (s.writeCsr v).lop = s.lop := rfl
@[simp] theorem State.writeCsr_lmod (v : CsrWord) (s : State) :
    (s.writeCsr v).lmod = s.lmod := rfl
@[simp] theorem State.writeCsr_limm (v : CsrWord) (s : State) :
    (s.writeCsr v).limm = s.limm := rfl
@[simp] theorem State.writeCsr_tmp (v : CsrWord) (s : State) :
    (s.writeCsr v).tmp = s.tmp := rfl
@[simp] theorem State.writeCsr_res (v : CsrWord) (s : State) :
    (s.writeCsr v).res = s.res := rfl
@[simp] theorem State.writeCsr_rvalid (v : CsrWord) (s : State) :
    (s.writeCsr v).rvalid = s.rvalid := rfl
@[simp] theorem State.writeCsr_cmd (v : CsrWord) (s : State) :
    (s.writeCsr v).cmd = s.cmd := rfl
@[simp] theorem State.writeCsr_cmdValid (v : CsrWord) (s : State) :
    (s.writeCsr v).cmdValid = s.cmdValid := rfl
@[simp] theorem State.writeCsr_cfg (v : CsrWord) (s : State) :
    (s.writeCsr v).cfg = s.cfg := rfl
@[simp] theorem State.writeCsr_turns (v : CsrWord) (s : State) :
    (s.writeCsr v).turns = s.turns := rfl
@[simp] theorem State.writeCsr_draws (v : CsrWord) (s : State) :
    (s.writeCsr v).draws = s.draws := rfl

@[simp] theorem State.drawByteState_int (s : State) :
    s.drawByte.2.int = s.int := rfl
@[simp] theorem State.drawByteState_ea (s : State) :
    s.drawByte.2.ea = s.ea := rfl
@[simp] theorem State.drawByteState_sta (s : State) :
    s.drawByte.2.sta = s.sta := rfl
@[simp] theorem State.drawByteState_sto (s : State) :
    s.drawByte.2.sto = s.sto := rfl
@[simp] theorem State.drawByteState_en (s : State) :
    s.drawByte.2.en = s.en := rfl
@[simp] theorem State.drawByteState_status (s : State) :
    s.drawByte.2.status = s.status := rfl
@[simp] theorem State.drawByteState_br (s : State) :
    s.drawByte.2.br = s.br := rfl
@[simp] theorem State.drawByteState_ps (s : State) :
    s.drawByte.2.ps = s.ps := rfl
@[simp] theorem State.drawByteState_data (s : State) :
    s.drawByte.2.data = s.data := rfl
@[simp] theorem State.drawByteState_fsm (s : State) :
    s.drawByte.2.fsm = s.fsm := rfl
@[simp] theorem State.drawByteState_cnt (s : State) :
    s.drawByte.2.cnt = s.cnt := rfl
@[simp] theorem State.drawByteState_lop (s : State) :
    s.drawByte.2.lop = s.lop := rfl
@[simp] theorem State.drawByteState_lmod (s : State) :
    s.drawByte.2.lmod = s.lmod := rfl
@[simp] theorem State.drawByteState_limm (s : State) :
    s.drawByte.2.limm = s.limm := rfl
@[simp] theorem State.drawByteState_tmp (s : State) :
    s.drawByte.2.tmp = s.tmp := rfl
@[simp] theorem State.drawByteState_res (s : State) :
    s.drawByte.2.res = s.res := rfl
@[simp] theorem State.drawByteState_rvalid (s : State) :
    s.drawByte.2.rvalid = s.rvalid := rfl
@[simp] theorem State.drawByteState_cmd (s : State) :
    s.drawByte.2.cmd = s.cmd := rfl
@[simp] theorem State.drawByteState_cmdValid (s : State) :
    s.drawByte.2.cmdValid = s.cmdValid := rfl
@[simp] theorem State.drawByteState_cfg (s : State) :
    s.drawByte.2.cfg = s.cfg := rfl
@[simp] theorem State.drawByteState_turns (s : State) :
    s.drawByte.2.turns = s.turns := rfl
@[simp] theorem State.drawByteState_draws (s : State) :
    s.drawByte.2.draws = s.draws + 1 := rfl

@[simp] theorem engineStopDone_int (s : State) :
    (engineStopDone s).int = s.int := rfl
@[simp] theorem engineStopDone_ea (s : State) :
    (engineStopDone s).ea = s.ea := rfl
@[simp] theorem engineStopDone_sta (s : State) :
    (engineStopDone s).sta = s.sta := rfl
@[simp] theorem engineStopDone_sto (s : State) :
    (engineStopDone s).sto = false := rfl
@[simp] theorem engineStopDone_en (s : State) :
    (engineStopDone s).en = s.en := rfl
@[simp] theorem engineStopDone_status (s : State) :
    (engineStopDone s).status = s.status := rfl
@[simp] theorem engineStopDone_br (s : State) :
    (engineStopDone s).br = s.br := rfl
@[simp] theorem engineStopDone_ps (s : State) :
    (engineStopDone s).ps = s.ps := rfl
@[simp] theorem engineStopDone_data (s : State) :
    (engineStopDone s).data = s.data := rfl
@[simp] theorem engineStopDone_fsm (s : State) :
    (engineStopDone s).fsm = s.fsm := rfl
@[simp] theorem engineStopDone_cnt (s : State) :
    (engineStopDone s).cnt = s.cnt := rfl
@[simp] theorem engineStopDone_lop (s : State) :
    (engineStopDone s).lop = s.lop := rfl
@[simp] theorem engineStopDone_lmod (s : State) :
    (engineStopDone s).lmod = s.lmod := rfl
@[simp] theorem engineStopDone_limm (s : State) :
    (engineStopDone s).limm = s.limm := rfl
@[simp] theorem engineStopDone_tmp (s : State) :
    (engineStopDone s).tmp = s.tmp := rfl
@[simp] theorem engineStopDone_res (s : State) :
    (engineStopDone s).res = s.res := rfl
@[simp] theorem engineStopDone_rvalid (s : State) :
    (engineStopDone s).rvalid = s.rvalid := rfl
@[simp] theorem engineStopDone_cmd (s : State) :
    (engineStopDone s).cmd = s.cmd := rfl
@[simp] theorem engineStopDone_cmdValid (s : State) :
    (engineStopDone s).cmdValid = s.cmdValid := rfl
@[simp] theorem engineStopDone_cfg (s : State) :
    (engineStopDone s).cfg = s.cfg := rfl
@[simp] theorem engineStopDone_turns (s : State) :
    (engineStopDone s).turns = s.turns := rfl
@[simp] theorem engineStopDone_draws (s : State) :
    (engineStopDone s).draws = s.draws := rfl

@[simp] theorem hostOffer_int (w : CmdWord) (s : State) :
    (hostOffer w s).int = s.int := rfl
@[simp] theorem hostOffer_ea (w : CmdWord) (s : State) :
    (hostOffer w s).ea = s.ea := rfl
@[simp] theorem hostOffer_sta (w : CmdWord) (s : State) :
    (hostOffer w s).sta = s.sta := rfl
@[simp] theorem hostOffer_sto (w : CmdWord) (s : State) :
    (hostOffer w s).sto = s.sto := rfl
@[simp] theorem hostOffer_en (w : CmdWord) (s : State) :
    (hostOffer w s).en = s.en := rfl
@[simp] theorem hostOffer_status (w : CmdWord) (s : State) :
    (hostOffer w s).status = s.status := rfl
@[simp] theorem hostOffer_br (w : CmdWord) (s : State) :
    (hostOffer w s).br = s.br := rfl
@[simp] theorem hostOffer_ps (w : CmdWord) (s : State) :
    (hostOffer w s).ps = s.ps := rfl
@[simp] theorem hostOffer_data (w : CmdWord) (s : State) :
    (hostOffer w s).data = s.data := rfl
@[simp] theorem hostOffer_fsm (w : CmdWord) (s : State) :
    (hostOffer w s).fsm = s.fsm := rfl
@[simp] theorem hostOffer_cnt (w : CmdWord) (s : State) :
    (hostOffer w s).cnt = s.cnt := rfl
@[simp] theorem hostOffer_lop (w : CmdWord) (s : State) :
    (hostOffer w s).lop = s.lop := rfl
@[simp] theorem hostOffer_lmod (w : CmdWord) (s : State) :
    (hostOffer w s).lmod = s.lmod := rfl
@[simp] theorem hostOffer_limm (w : CmdWord) (s : State) :
    (hostOffer w s).limm = s.limm := rfl
@[simp] theorem hostOffer_tmp (w : CmdWord) (s : State) :
    (hostOffer w s).tmp = s.tmp := rfl
@[simp] theorem hostOffer_res (w : CmdWord) (s : State) :
    (hostOffer w s).res = s.res := rfl
@[simp] theorem hostOffer_rvalid (w : CmdWord) (s : State) :
    (hostOffer w s).rvalid = s.rvalid := rfl
@[simp] theorem hostOffer_cmd (w : CmdWord) (s : State) :
    (hostOffer w s).cmd = w := rfl
@[simp] theorem hostOffer_cmdValid (w : CmdWord) (s : State) :
    (hostOffer w s).cmdValid = true := rfl
@[simp] theorem hostOffer_cfg (w : CmdWord) (s : State) :
    (hostOffer w s).cfg = s.cfg := rfl
@[simp] theorem hostOffer_turns (w : CmdWord) (s : State) :
    (hostOffer w s).turns = s.turns := rfl
@[simp] theorem hostOffer_draws (w : CmdWord) (s : State) :
    (hostOffer w s).draws = s.draws := rfl

@[simp] theorem hostWithdraw_int (s : State) :
    (hostWithdraw s).int = s.int := rfl
@[simp] theorem hostWithdraw_ea (s : State) :
    (hostWithdraw s).ea = s.ea := rfl
@[simp] theorem hostWithdraw_sta (s : State) :
    (hostWithdraw s).sta = s.sta := rfl
@[simp] theorem hostWithdraw_sto (s : State) :
    (hostWithdraw s).sto = s.sto := rfl
@[simp] theorem hostWithdraw_en (s : State) :
    (hostWithdraw s).en = s.en := rfl
@[simp] theorem hostWithdraw_status (s : State) :
    (hostWithdraw s).status = s.status := rfl
@[simp] theorem hostWithdraw_br (s : State) :
    (hostWithdraw s).br = s.br := rfl
@[simp] theorem hostWithdraw_ps (s : State) :
    (hostWithdraw s).ps = s.ps := rfl
@[simp] theorem hostWithdraw_data (s : State) :
    (hostWithdraw s).data = s.data := rfl
@[simp] theorem hostWithdraw_fsm (s : State) :
    (hostWithdraw s).fsm = s.fsm := rfl
@[simp] theorem hostWithdraw_cnt (s : State) :
    (hostWithdraw s).cnt = s.cnt := rfl
@[simp] theorem hostWithdraw_lop (s : State) :
    (hostWithdraw s).lop = s.lop := rfl
@[simp] theorem hostWithdraw_lmod (s : State) :
    (hostWithdraw s).lmod = s.lmod := rfl
@[simp] theorem hostWithdraw_limm (s : State) :
    (hostWithdraw s).limm = s.limm := rfl
@[simp] theorem hostWithdraw_tmp (s : State) :
    (hostWithdraw s).tmp = s.tmp := rfl
@[simp] theorem hostWithdraw_res (s : State) :
    (hostWithdraw s).res = s.res := rfl
@[simp] theorem hostWithdraw_rvalid (s : State) :
    (hostWithdraw s).rvalid = s.rvalid := rfl
@[simp] theorem hostWithdraw_cmd (s : State) :
    (hostWithdraw s).cmd = s.cmd := rfl
@[simp] theorem hostWithdraw_cmdValid (s : State) :
    (hostWithdraw s).cmdValid = false := rfl
@[simp] theorem hostWithdraw_cfg (s : State) :
    (hostWithdraw s).cfg = s.cfg := rfl
@[simp] theorem hostWithdraw_turns (s : State) :
    (hostWithdraw s).turns = s.turns := rfl
@[simp] theorem hostWithdraw_draws (s : State) :
    (hostWithdraw s).draws = s.draws := rfl

@[simp] theorem hostReset_int (s : State) :
    (hostReset s).int = false := rfl
@[simp] theorem hostReset_ea (s : State) :
    (hostReset s).ea = false := rfl
@[simp] theorem hostReset_sta (s : State) :
    (hostReset s).sta = false := rfl
@[simp] theorem hostReset_sto (s : State) :
    (hostReset s).sto = false := rfl
@[simp] theorem hostReset_en (s : State) :
    (hostReset s).en = false := rfl
@[simp] theorem hostReset_fsm (s : State) :
    (hostReset s).fsm = .idle := rfl
@[simp] theorem hostReset_rvalid (s : State) :
    (hostReset s).rvalid = false := rfl
@[simp] theorem hostReset_cmd (s : State) :
    (hostReset s).cmd = s.cmd := rfl
@[simp] theorem hostReset_cmdValid (s : State) :
    (hostReset s).cmdValid = s.cmdValid := rfl
@[simp] theorem hostReset_cfg (s : State) :
    (hostReset s).cfg = s.cfg := rfl
@[simp] theorem hostReset_turns (s : State) :
    (hostReset s).turns = s.turns := rfl
@[simp] theorem hostReset_draws (s : State) :
    (hostReset s).draws = s.draws + 10 := rfl

@[simp] theorem engineComplete_ea (a b : Byte) (s : State) :
    (engineComplete a b s).ea = s.ea := by
  unfold engineComplete; split <;> rfl
@[simp] theorem engineComplete_sta (a b : Byte) (s : State) :
    (engineComplete a b s).sta = s.sta := by
  unfold engineComplete; split <;> rfl
@[simp] theorem engineComplete_sto (a b : Byte) (s : State) :
    (engineComplete a b s).sto = s.sto := by
  unfold engineComplete; split <;> rfl
@[simp] theorem engineComplete_en (a b : Byte) (s : State) :
    (engineComplete a b s).en = s.en := by
  unfold engineComplete; split <;> rfl
@[simp] theorem engineComplete_br (a b : Byte) (s : State) :
    (engineComplete a b s).br = s.br := by
  unfold engineComplete; split <;> rfl
@[simp] theorem engineComplete_ps (a b : Byte) (s : State) :
    (engineComplete a b s).ps = s.ps := by
  unfold engineComplete; split <;> rfl
@[simp] theorem engineComplete_fsm (a b : Byte) (s : State) :
    (engineComplete a b s).fsm = s.fsm := by
  unfold engineComplete; split <;> rfl
@[simp] theorem engineComplete_cnt (a b : Byte) (s : State) :
    (engineComplete a b s).cnt = s.cnt := by
  unfold engineComplete; split <;> rfl
@[simp] theorem engineComplete_lop (a b : Byte) (s : State) :
    (engineComplete a b s).lop = s.lop := by
  unfold engineComplete; split <;> rfl
@[simp] theorem engineComplete_lmod (a b : Byte) (s : State) :
    (engineComplete a b s).lmod = s.lmod := by
  unfold engineComplete; split <;> rfl
@[simp] theorem engineComplete_limm (a b : Byte) (s : State) :
    (engineComplete a b s).limm = s.limm := by
  unfold engineComplete; split <;> rfl
@[simp] theorem engineComplete_tmp (a b : Byte) (s : State) :
    (engineComplete a b s).tmp = s.tmp := by
  unfold engineComplete; split <;> rfl
@[simp] theorem engineComplete_res (a b : Byte) (s : State) :
    (engineComplete a b s).res = s.res := by
  unfold engineComplete; split <;> rfl
@[simp] theorem engineComplete_rvalid (a b : Byte) (s : State) :
    (engineComplete a b s).rvalid = s.rvalid := by
  unfold engineComplete; split <;> rfl
@[simp] theorem engineComplete_cmd (a b : Byte) (s : State) :
    (engineComplete a b s).cmd = s.cmd := by
  unfold engineComplete; split <;> rfl
@[simp] theorem engineComplete_cmdValid (a b : Byte) (s : State) :
    (engineComplete a b s).cmdValid = s.cmdValid := by
  unfold engineComplete; split <;> rfl
@[simp] theorem engineComplete_cfg (a b : Byte) (s : State) :
    (engineComplete a b s).cfg = s.cfg := by
  unfold engineComplete; split <;> rfl
@[simp] theorem engineComplete_turns (a b : Byte) (s : State) :
    (engineComplete a b s).turns = s.turns := by
  unfold engineComplete; split <;> rfl
@[simp] theorem engineComplete_draws (a b : Byte) (s : State) :
    (engineComplete a b s).draws = s.draws := by
  unfold engineComplete; split <;> rfl

end Sys2Proof.Machine
end

