-- ==== Sys2Proof/Laws/Csr.lean ====
section
/-! SUPPORT. The packed control/status register: what its fields read as, and what each control write does. -/

namespace Sys2Proof.Machine

@[simp] theorem csrInt_csr (s : State) : csrInt s.csr = s.int := by
  simp only [csrInt, State.csr, BitVec.getLsbD_append]
  simp

@[simp] theorem csrStatus_csr (s : State) : csrStatus s.csr = s.status := by
  apply BitVec.eq_of_getLsbD_eq
  intro k hk
  simp only [csrStatus, State.csr, BitVec.getLsbD_extractLsb', BitVec.getLsbD_append]
  interval_cases k <;> simp

/-- The bits of a control word, by name. -/
theorem CtlSet.word_bits (c : CtlSet) :
    c.word.getLsbD 7 = c.flagClear ∧ c.word.getLsbD 6 = c.ea ∧ c.word.getLsbD 5 = c.sta ∧ c.word.getLsbD 4 = c.sto ∧
      c.word.getLsbD 2 = c.en ∧ csrReservedSet c.word = false := by
  simp only [CtlSet.word, csrReservedSet, BitVec.getLsbD_append]
  simp

@[simp] theorem csrReservedSet_word (c : CtlSet) : csrReservedSet c.word = false := (CtlSet.word_bits c).2.2.2.2.2

/-- A whole control write, as the fields it leaves (20_memory.md R66). -/
theorem writeCsr_word (c : CtlSet) (s : State) :
    s.writeCsr c.word =
      { s with
        int := if c.flagClear then false else s.int
        ea := c.ea
        sta := c.sta
        sto := c.sto
        en := c.en } := by
  obtain ⟨h7, h6, h5, h4, h2, -⟩ := CtlSet.word_bits c
  simp only [State.writeCsr, h7, h6, h5, h4, h2]

end Sys2Proof.Machine
end

