-- ==== Sys2Proof/Laws/Decode.lean ====
section
/-! SUPPORT. The fields of an encoded command word. -/

namespace Sys2Proof

@[simp] theorem op_encode (i : Instr) : CmdWord.op (encode i) = i.op := by
  apply BitVec.eq_of_getLsbD_eq
  intro k hk
  simp only [CmdWord.op, encode, BitVec.getLsbD_extractLsb', BitVec.getLsbD_append]
  interval_cases k <;> simp

@[simp] theorem modifier_encode (i : Instr) : CmdWord.modifier (encode i) = i.modifier := by
  apply BitVec.eq_of_getLsbD_eq
  intro k hk
  simp only [CmdWord.modifier, encode, BitVec.getLsbD_extractLsb', BitVec.getLsbD_append]
  interval_cases k <;> simp

@[simp] theorem imm_encode (i : Instr) : CmdWord.imm (encode i) = i.imm := by
  apply BitVec.eq_of_getLsbD_eq
  intro k hk
  simp only [CmdWord.imm, encode, BitVec.getLsbD_extractLsb', BitVec.getLsbD_append]
  simp [hk]

/-- A command word is its three fields (30_encoding.md R91). -/
theorem fields_append (w : CmdWord) : CmdWord.op w ++ CmdWord.modifier w ++ CmdWord.imm w = w := by
  apply BitVec.eq_of_getLsbD_eq
  intro k hk
  simp only [CmdWord.op, CmdWord.modifier, CmdWord.imm, BitVec.getLsbD_extractLsb', BitVec.getLsbD_append]
  interval_cases k <;> simp

end Sys2Proof
end

