-- ==== Sys2Proof/Laws/Ops.lean ====
section
/-! SUPPORT. One lemma per shared operation, saying once everything it can do. -/

namespace Sys2Proof.Machine

@[simp] theorem memRead_csr (s : State) : memRead 0 16 s = .ok s.csr := rfl
@[simp] theorem memRead_brr (s : State) : memRead 1 8 s = .ok s.br := rfl
@[simp] theorem memRead_psr (s : State) : memRead 2 2 s = .ok s.ps := rfl
@[simp] theorem memRead_dr (s : State) : memRead 3 8 s = .ok s.data := rfl
@[simp] theorem memWrite_brr (v : Byte) (s : State) : memWrite 1 8 v s = .ok { s with br := v } := rfl
@[simp] theorem memWrite_psr (v : BitVec 2) (s : State) : memWrite 2 2 v s = .ok { s with ps := v } := rfl
@[simp] theorem memWrite_dr (v : Byte) (s : State) : memWrite 3 8 v s = .ok { s with data := v } := rfl

theorem memWrite_csr (v : CsrWord) (s : State) :
    memWrite 0 16 v s = if csrReservedSet v then .error (.reservedBitWrite v) else .ok (s.writeCsr v) := rfl

@[simp] theorem readThen_csr (s : State) (k : CsrWord → Result) : readThen 0 16 s k = k s.csr := rfl
@[simp] theorem readThen_dr (s : State) (k : Byte → Result) : readThen 3 8 s k = k s.data := rfl
@[simp] theorem writeThen_brr (v : Byte) (s : State) (k : State → Result) :
    writeThen 1 8 v s k = k { s with br := v } := rfl
@[simp] theorem writeThen_psr (v : BitVec 2) (s : State) (k : State → Result) :
    writeThen 2 2 v s k = k { s with ps := v } := rfl
@[simp] theorem writeThen_dr (v : Byte) (s : State) (k : State → Result) :
    writeThen 3 8 v s k = k { s with data := v } := rfl

/-- A whole control write goes on in the state it leaves; it never refuses. -/
theorem ctlWriteThen_eq (c : CtlSet) (s : State) (k : State → Result) :
    ctlWriteThen c s k =
      k { s with
        int := if c.flagClear then false else s.int
        ea := c.ea
        sta := c.sta
        sto := c.sto
        en := c.en } := by
  simp [ctlWriteThen, writeThen, memWrite_csr, writeCsr_word]

@[simp] theorem ctlWriteThen_start (s : State) (k : State → Result) :
    ctlWriteThen .start s k = k { s with int := false, ea := false, sta := true, sto := false, en := true } :=
  ctlWriteThen_eq .start s k

@[simp] theorem ctlWriteThen_transmit (s : State) (k : State → Result) :
    ctlWriteThen .transmit s k = k { s with int := false, ea := false, sta := false, sto := false, en := true } :=
  ctlWriteThen_eq .transmit s k

@[simp] theorem ctlWriteThen_stop (s : State) (k : State → Result) :
    ctlWriteThen .stop s k = k { s with int := false, ea := false, sta := false, sto := true, en := true } :=
  ctlWriteThen_eq .stop s k

/-- An unbounded poll answers a next state, by the flag. -/
theorem pollInt_eq (stay done : MicroState) (s : State) :
    pollInt stay done s = .next (s.goto (if s.int then done else stay)) := by
  cases h : s.int <;> simp [pollInt, h]

/-- One guard iteration answers a next state, in four cases. -/
theorem guardIteration_eq (stay : MicroState) (ready : State → State) (s : State) :
    guardIteration stay ready s = .next (
      if s.cnt = 0 then s.complete s.cfg.errBusDisconnected
      else if s.int then ready s
      else if s.cnt - 1 = 0 then State.complete s.cfg.errBusDisconnected { s with cnt := s.cnt - 1 }
      else State.goto stay { s with cnt := s.cnt - 1 }) := by
  simp only [guardIteration, readThen_csr, csrInt_csr]
  split_ifs <;> rfl

/-- The status check completes, with `OK` or the raw status. -/
theorem checkStatus_eq (success : Byte → Bool) (s : State) :
    checkStatus success s = .next (State.complete (if success s.status then s.cfg.ok else s.status)
      { s with tmp := s.status }) := by
  simp [checkStatus, readStatusThen]

/-- RXBYTE's check goes on to the data read or completes with the error (44_receive_and_guard.md R175). -/
theorem receiveCheck_eq (s : State) :
    receiveCheck s = .next (
      if rxHit s.cfg s.status ^^ s.cfg.rxCheckInverted then State.goto .rxData { s with tmp := s.status }
      else State.complete s.cfg.errTransmission { s with tmp := s.status }) := by
  simp only [receiveCheck, readStatusThen, readThen_csr, csrStatus_csr]
  split_ifs <;> rfl

/-- INIT's divisor step answers a next state, with the divisor or a free value (40_init.md R121, R127). -/
theorem initWriteDivisor_eq (freq : BitVec 32) (ps : BitVec 2) (s : State) :
    initWriteDivisor freq ps s = .next (
      match divisor s.cfg freq ps with
      | some br => State.goto .initEn { s with br := br }
      | none => State.goto .initEn { s with br := Config.draw 8 s.draws, draws := s.draws + 1 }) := by
  unfold initWriteDivisor
  cases divisor s.cfg freq ps <;> rfl

end Sys2Proof.Machine
end

