-- ==== Sys2Proof/Laws/PerInstr.lean ====
section
/-! SUPPORT. Statements for all operations, one lemma per constructor of Instr. -/

namespace Sys2Proof.Laws.EncodedWordMatchesRow

/-- The encoded word of an operation matches the operation's row of 30_encoding.md R94. -/
def Statement (i : Instr) : Prop := i.row.matchesWord (encode i) = true

theorem init (freq : BitVec 32) (ps : BitVec 2) : Statement (.init freq ps) := by
  simp only [Statement, OpcodeRow.matchesWord, beq_iff_eq]
  apply BitVec.eq_of_getLsbD_eq
  intro k hk
  simp only [encode, Instr.op, Instr.modifier, Instr.imm, Instr.row, BitVec.getLsbD_and, BitVec.getLsbD_append]
  interval_cases k <;> simp

theorem start : Statement .start := by
  unfold Statement
  decide

theorem txaddr (addr : BitVec 7) (dir : BitVec 1) : Statement (.txaddr addr dir) := by
  simp only [Statement, OpcodeRow.matchesWord, beq_iff_eq]
  apply BitVec.eq_of_getLsbD_eq
  intro k hk
  simp only [encode, Instr.op, Instr.modifier, Instr.imm, Instr.row, BitVec.getLsbD_and, BitVec.getLsbD_append]
  interval_cases k <;> simp

theorem txbyte (byte : Byte) : Statement (.txbyte byte) := by
  simp only [Statement, OpcodeRow.matchesWord, beq_iff_eq]
  apply BitVec.eq_of_getLsbD_eq
  intro k hk
  simp only [encode, Instr.op, Instr.modifier, Instr.imm, Instr.row, BitVec.getLsbD_and, BitVec.getLsbD_append]
  interval_cases k <;> simp

theorem rxbyte (ack : AckPolicy) : Statement (.rxbyte ack) := by
  unfold Statement
  cases ack <;> decide

theorem stop : Statement .stop := by
  unfold Statement
  decide

theorem waitrdy (budget : Byte) : Statement (.waitrdy budget) := by
  simp only [Statement, OpcodeRow.matchesWord, beq_iff_eq]
  apply BitVec.eq_of_getLsbD_eq
  intro k hk
  simp only [encode, Instr.op, Instr.modifier, Instr.imm, Instr.row, BitVec.getLsbD_and, BitVec.getLsbD_append]
  interval_cases k <;> simp

end Sys2Proof.Laws.EncodedWordMatchesRow
end

