-- ==== Sys2Proof/Laws/Step.lean ====
section
/-! SUPPORT. The step by turn, the fetch by micro-state, and runs of several steps. -/

namespace Sys2Proof.Machine

/-- A step makes the move at the head of `turns`. -/
theorem step_cons {s : State} {t : Turn} {ts : List Turn} (h : s.turns = t :: ts) :
    step s = turnStep t { s with turns := ts } := by
  simp [step, takeTurn, h]

/-- With no move listed, a step makes the move drawn. -/
theorem step_nil {s : State} (h : s.turns = []) :
    step s = turnStep (Config.drawTurn s.draws) { s with draws := s.draws + 1 } := by
  simp [step, takeTurn, h]

/-- Every step is some move in a state that differs from `s` at most in `turns` and `draws`. -/
theorem step_cases (s : State) :
    ∃ t ts n, step s = turnStep t { s with turns := ts, draws := n } := by
  cases h : s.turns with
  | nil => exact ⟨_, [], _, by simp [step, takeTurn, h]; rw [← h]⟩
  | cons t ts => exact ⟨t, ts, s.draws, step_cons h⟩

theorem blockStep_inFlight {s : State} {i : Instr} (h : s.inFlight = some i) : blockStep s = exec i s := by
  simp [blockStep, fetch, h]

theorem inFlight_idle {s : State} (h : s.fsm = .idle) : s.inFlight = none := by
  simp [State.inFlight, h]

/-- Only `IDLE` has no operation in flight. -/
theorem inFlight_eq_none_iff {s : State} : s.inFlight = none ↔ s.fsm = .idle := by
  cases h : s.fsm <;> simp [State.inFlight, h]

theorem blockStep_waits {s : State} (h : s.fsm = .idle) (hv : s.cmdValid = false) : blockStep s = .next s := by
  simp [blockStep, fetch, inFlight_idle h, hv]

theorem blockStep_accepts {s : State} {i : Instr} (h : s.fsm = .idle) (hv : s.cmdValid = true)
    (hd : decode s.cmd = .ok i) : blockStep s = exec i s := by
  simp [blockStep, fetch, inFlight_idle h, hv, hd]

theorem blockStep_reserved {s : State} {r : Reserved} (h : s.fsm = .idle) (hv : s.cmdValid = true)
    (hd : decode s.cmd = .error r) : blockStep s = .refused (.reservedCommand s.cmd) := by
  simp [blockStep, fetch, inFlight_idle h, hv, hd]

@[simp] theorem run_zero (s : State) : run 0 s = .next s := rfl

/-- The first of several steps answers a next state, and the run goes on from it. -/
theorem run_succ_of_next {s t : State} (n : Nat) (h : step s = .next t) : run (n + 1) s = run n t := by
  simp only [run, h]

/-- A run of several steps that answers a next state has a first step that does. -/
theorem exists_of_run_succ {s t : State} {n : Nat} (h : run (n + 1) s = .next t) :
    ∃ u, step s = .next u ∧ run n u = .next t := by
  simp only [run] at h
  cases hs : step s with
  | next u => rw [hs] at h; exact ⟨u, rfl, h⟩
  | fault r => rw [hs] at h; cases h
  | refused r => rw [hs] at h; cases h

/-- Runs compose. -/
theorem run_add {s t : State} {m : Nat} (n : Nat) (h : run m s = .next t) : run (m + n) s = run n t := by
  induction m generalizing s with
  | zero => cases h; simp
  | succ m ih =>
    obtain ⟨u, hu, hr⟩ := exists_of_run_succ h
    rw [Nat.succ_add, run_succ_of_next _ hu, ih hr]

/-- A property that every step keeps holds at the end of every run that answers a next state. -/
theorem run_induction {P : State → Prop} (keeps : ∀ s t, P s → step s = .next t → P t) {n : Nat} {s t : State}
    (hs : P s) (h : run n s = .next t) : P t := by
  induction n generalizing s with
  | zero => cases h; exact hs
  | succ n ih =>
    obtain ⟨u, hu, hr⟩ := exists_of_run_succ h
    exact ih (keeps _ _ hs hu) hr

/-- The model's run is the run of the reader's interface. -/
theorem run_eq_coreRun (n : Nat) (s : State) : run n s = Host.Core.run Sys2Proof.core n s := by
  induction n generalizing s with
  | zero => rfl
  | succ n ih =>
    have hs : Sys2Proof.core.step s = step s := rfl
    simp only [run, Host.Core.run, hs]
    cases step s <;> simp only [ih] <;> rfl

end Sys2Proof.Machine
end

