-- ==== Sys2Proof/Tests/Slice0.lean ====
section
/-! SUPPORT. The model's own tests, each about one step or one function on fixed values, with expected values from spec/
(mostly spec/95_test_vectors.md), and one witness for the hypotheses of every obligation that has any. -/

namespace Sys2Proof.Tests

open Sys2Proof Sys2Proof.Machine

/-- The next state, if there is one. -/
def nextOf (r : Result) : Option State :=
  match r with
  | .next s => some s
  | .fault _ => none
  | .refused _ => none

/-- The refusal, if there is one. -/
def refusalOf (r : Result) : Option Refusal :=
  match r with
  | .next _ => none
  | .fault _ => none
  | .refused e => some e

/-- One field of the next state. -/
def get {α : Type} (f : State → α) (r : Result) : Option α := (nextOf r).map f

/-- The state after reset, in micro-state `m` with `EN` = 1. -/
def inMicro (m : MicroState) (ts : List Turn) : State := { State.reset with fsm := m, en := true, turns := ts }

/-- The state after reset with a word offered and `EN` = 1. -/
def offered (w : CmdWord) (ts : List Turn) : State :=
  { State.reset with cmd := w, cmdValid := true, en := true, turns := ts }

/-- The configuration under the reference's reported polarity. -/
def inverted : Config := { Config.default with rxCheckInverted := true }

/-! ### Well-formedness: an ill-formed term for each check (R109, R10) -/

theorem test_wf_init : (AsmCommand.init 0x100000000 .x1).wellFormed = false ∧
    (AsmCommand.init 0xFFFFFFFF .x64).wellFormed = true := by decide
theorem test_wf_txaddr : (AsmCommand.txaddr 128 .w).wellFormed = false ∧
    (AsmCommand.txaddr 127 .r).wellFormed = true := by decide
theorem test_wf_txbyte : (AsmCommand.txbyte 256).wellFormed = false ∧ (AsmCommand.txbyte 255).wellFormed = true := by decide
theorem test_wf_waitrdy : (AsmCommand.waitrdy 256).wellFormed = false ∧ (AsmCommand.waitrdy 0).wellFormed = true := by decide
theorem test_wf_default : Config.default.wf = true ∧ inverted.wf = true := by decide
theorem test_wf_config_a : ({ Config.default with stRepStart := 0x08 } : Config).wf = false := by decide
theorem test_wf_config_b : ({ Config.default with errTransmission := 0x02 } : Config).wf = false := by decide
theorem test_wf_config_c : ({ Config.default with ok := 0x30 } : Config).wf = false ∧
    ({ Config.default with ok := 0x05, stStart := 0x05 } : Config).wf = false := by decide
theorem test_wf_config_d : ({ Config.default with fRef := 0 } : Config).wf = false ∧
    ({ Config.default with fRef := 0x100000000 } : Config).wf = false := by decide
theorem test_wf_config_e : ({ Config.default with dirRead := 0 } : Config).wf = false := by decide

/-! ### Decoding: words written out bit by bit from R93, and 95 2.1 -/

theorem test_decode_init : decode 0b0001_0000_00000000000000011000011010100000 = .ok (.init 100000 0) ∧
    decode 0b0001_0011_11111111111111111111111111111111 = .ok (.init 4294967295 3) := by decide
theorem test_decode_start : decode 0b0010_0000_00000000000000000000000000000000 = .ok .start := by decide
theorem test_decode_txaddr : decode 0b0011_0000_00000000000000000000000001010000 = .ok (.txaddr 0x50 0) ∧
    decode 0b0011_0001_00000000000000000000000001111111 = .ok (.txaddr 0x7F 1) := by decide
theorem test_decode_txbyte : decode 0b0100_0000_00000000000000000000000010101011 = .ok (.txbyte 0xAB) ∧
    decode 0x40000000FF = .ok (.txbyte 0xFF) := by decide
theorem test_decode_rxbyte : decode 0b0101_0001_00000000000000000000000000000000 = .ok (.rxbyte .sendAck) ∧
    decode 0b0101_0000_00000000000000000000000000000000 = .ok (.rxbyte .sendNack) := by decide
theorem test_decode_stop : decode 0b0110_0000_00000000000000000000000000000000 = .ok .stop := by decide
theorem test_decode_waitrdy : decode 0b0111_0000_00000000000000000000000000111100 = .ok (.waitrdy 60) ∧
    decode 0x7000000000 = .ok (.waitrdy 0) := by decide
theorem test_decode_must_be_zero :
    [0x1400000001, 0x1800000001, 0x2000000001, 0x2100000000, 0x3000000080, 0x3000000150, 0x3200000050, 0x4000000100,
      0x4100000000, 0x5200000000, 0x5000000001, 0x6100000000, 0x6000000001, 0x7000000100, 0x7100000000].all
      (fun w : CmdWord => (decode w).toOption == none) = true := by decide
theorem test_decode_reserved_opcode : decode 0x0FFFFFFFFF = .error (.opcode 0) ∧ decode 0x8000000000 = .error (.opcode 8) ∧
    decode 0xF000000000 = .error (.opcode 15) ∧ decode 0xFFFFFFFFFF = .error (.opcode 15) := by decide
theorem test_encode : encode (.init 100000 1) = 0x11000186A0 ∧ encode (.txaddr 0x50 1) = 0x3100000050 ∧
    encode (.rxbyte .sendAck) = 0x5100000000 ∧ encode (.waitrdy 255) = 0x70000000FF := by decide
/-- The opcode table as spec/opcode_table.json has it. -/
theorem test_opcode_table : opcodeTable =
    [⟨"INIT", 0x1000000000, 0xFC00000000⟩, ⟨"START", 0x2000000000, 0xFFFFFFFFFF⟩, ⟨"TXADDR", 0x3000000000, 0xFEFFFFFF80⟩,
     ⟨"TXBYTE", 0x4000000000, 0xFFFFFFFF00⟩, ⟨"RXBYTE", 0x5000000000, 0xFEFFFFFFFF⟩, ⟨"STOP", 0x6000000000, 0xFFFFFFFFFF⟩,
     ⟨"WAITRDY", 0x7000000000, 0xFFFFFFFF00⟩] := by decide
theorem test_assemble : assemble Config.default (.txaddr 0x50 .r) = some 0x3100000050 ∧
    assemble Config.default (.init 100000 .x4) = some 0x11000186A0 ∧ assemble Config.default (.txbyte 256) = none := by decide
/-- The seven examples of R109, a comment, and lines that are errors. -/
theorem test_assembleLine :
    (["INIT 100000, X1", "START", "TXADDR 0x50, W", "TXBYTE 0xAB", "RXBYTE ACK", "STOP", "WAITRDY 60 ; comment"].map
      (assembleLine Config.default)) =
      [some 0x10000186A0, some 0x2000000000, some 0x3000000050, some 0x40000000AB, some 0x5100000000, some 0x6000000000,
       some 0x700000003C] ∧
    ["TXBYTE 256", "TXADDR 0x80, R", "INIT 1, X2", "start", "TXBYTE 0x", "STOP 1", ""].all
      (fun l => assembleLine Config.default l == none) = true := by decide
theorem test_asm_text : (AsmCommand.txaddr 80 .r).text = "TXADDR 80, R" ∧
    AsmCommand.parse (AsmCommand.txaddr 80 .r).text = some (.txaddr 80 .r) := by decide
theorem test_decodeTableWord : decodeTableWord 40 0x3100000050 = some (.txaddr 0x50 1) ∧
    decodeTableWord 40 0x8000000000 = none := by decide
theorem test_withFetchWord : get State.fsm (step (State.reset.withFetchWord 40 0x40000000AB)) = some .txbData ∧
    get State.limm (step (State.reset.withFetchWord 40 0x40000000AB)) = some 0xAB := by decide

/-! ### State: codes (R36), the packed register (R24), reset (95 2.9) -/

theorem test_codes : (MicroState.all.map MicroState.code).map BitVec.toNat = List.range 22 ∧
    MicroState.all.all (fun m => MicroState.ofCode m.code == some m) = true ∧ MicroState.ofCode 0x16 = none := by decide
theorem test_csr : ({ State.reset with status := 0x28, en := true } : State).csr = 0x2804 := by decide
theorem test_control_words : CtlSet.start.word = 0x00A4 ∧ CtlSet.transmit.word = 0x0084 ∧ CtlSet.stop.word = 0x0094 := by decide
theorem test_reset_of_hung_start :
    get (fun s => (s.fsm, s.int, s.sta, s.en, s.rvalid, s.busy))
      (step { inMicro .startPoll [.reset] with sta := true }) = some (.idle, false, false, false, false, false) := by decide
theorem test_access_without_register : memRead 4 8 State.reset = .error (.badRegisterAccess 4 8) ∧
    memWrite 0 8 0 State.reset = .error (.badRegisterAccess 0 8) ∧
    memWrite 0 16 0x0001 State.reset = .error (.reservedBitWrite 0x0001) := by decide

/-! ### One step of each operation (95 2.2 to 2.8) -/

/-- V1, V5, V12, V13, V15, V16, and V18, where no value is stated. -/
theorem test_divisor : divisor Config.default 100000 0 = some 0x48 ∧ divisor Config.default 100000 3 = some 0x01 ∧
    divisor Config.default 30303 0 = some 0x00 ∧ divisor Config.default 10000 0 = some 0x18 ∧
    divisor Config.default 1 3 = some 0x47 ∧ divisor Config.default 1000000 0 = some 0x00 ∧
    divisor Config.default 1000001 0 = none := by decide
theorem test_init_refuses_zero : refusalOf (exec (.init 0 0) State.reset) = some .initFrequencyZero := by decide
theorem test_init_keeps_flag : get (fun s => (s.en, s.int, s.sta, s.fsm))
    (exec (.init 1 0) { inMicro .initEn [] with en := false, int := true, sta := true }) =
      some (true, true, true, .idle) := by decide
/-- T2 and T5. -/
theorem test_start_check : get State.res (exec .start { inMicro .startChk [] with status := 0x10 }) = some 0x01 ∧
    get State.res (exec .start { inMicro .startChk [] with status := 0x18 }) = some 0x18 := by decide
/-- T9 and T11. -/
theorem test_start_control : refusalOf (exec .start { State.reset with sto := true }) = some .startWhileStopPending ∧
    get State.csr (exec .start { inMicro .startCtl [] with int := true, ea := true, status := 0x08 }) = some 0x0824 := by decide
/-- A3 and A5. -/
theorem test_txaddr_check : get State.res (exec (.txaddr 0x50 0) { inMicro .txaChk [] with status := 0x40 }) = some 0x40 ∧
    get State.res (exec (.txaddr 0x50 1) { inMicro .txaChk [] with status := 0x40 }) = some 0x01 := by decide
/-- A6 and A9: the address byte, and `STA` still set before the control write. -/
theorem test_txaddr_data : get State.data (exec (.txaddr 0x50 1) (inMicro .txaData [])) = some 0xA1 ∧
    get (fun s => (s.data, s.sta)) (exec (.txaddr 0x7F 1) { inMicro .txaData [] with sta := true }) = some (0xFF, true) := by
  decide
/-- B1 and B7. -/
theorem test_txbyte_check : get State.res (exec (.txbyte 0xAB) { inMicro .txbChk [] with status := 0x28 }) = some 0x01 ∧
    get State.res (exec (.txbyte 0x28) { inMicro .txbChk [] with status := 0x18 }) = some 0x18 := by decide
theorem test_txbyte_data : get State.data (exec (.txbyte 0xAB) (inMicro .txbData [])) = some 0xAB := by decide
/-- X2 and X4; X11 and X12 under the other polarity. -/
theorem test_rxbyte_check :
    get State.fsm (exec (.rxbyte .sendAck) { inMicro .rxChk [] with status := 0x58 }) = some .rxData ∧
    get State.res (exec (.rxbyte .sendAck) { inMicro .rxChk [] with status := 0x00 }) = some 0x03 ∧
    get State.res (exec (.rxbyte .sendAck) { inMicro .rxChk [] with cfg := inverted, status := 0x58 }) = some 0x03 ∧
    get State.fsm (exec (.rxbyte .sendAck) { inMicro .rxChk [] with cfg := inverted, status := 0x38 }) = some .rxData := by
  decide
/-- X22, and the budget of 60. -/
theorem test_rxbyte_clear : get (fun s => (s.int, s.sta, s.ea, s.cnt))
    (exec (.rxbyte .sendAck) { inMicro .rxClr [] with int := true, sta := true, ea := true }) =
      some (false, true, true, 60) := by decide
/-- W1 and W3. -/
theorem test_waitrdy_budget :
    get State.res (exec (.waitrdy 0) { inMicro .wrPoll [] with cnt := 0, int := true }) = some 0x02 ∧
    get (fun s => (s.res, s.cnt)) (exec (.waitrdy 1) { inMicro .wrPoll [] with cnt := 1, int := true }) = some (0x01, 1) := by
  decide
/-- W6, and a read short of the budget. -/
theorem test_waitrdy_counts :
    get (fun s => (s.res, s.cnt, s.fsm)) (exec (.waitrdy 1) { inMicro .wrPoll [] with cnt := 1 }) = some (0x02, 0, .idle) ∧
    get (fun s => (s.rvalid, s.cnt, s.fsm)) (exec (.waitrdy 3) { inMicro .wrPoll [] with cnt := 3 }) =
      some (false, 2, .wrPoll) := by decide
/-- Q1. -/
theorem test_stop : get (fun s => (s.csr, s.res, s.rvalid, s.busy))
    (exec .stop { inMicro .stopCtl [] with int := true, status := 0x28, res := 0x01 }) =
      some (0x2814, 0x01, false, false) := by decide

/-- The acknowledging peripheral answers no receive while `EN` = 0 (R74), and keeps its byte (log 22). -/
theorem test_peripheral_disabled :
    (Peripheral.mk true [0x3C]).answer { inMicro .rxClr [] with en := false } = ([], Peripheral.mk true [0x3C]) ∧
    (Peripheral.mk true [0x3C]).answer { inMicro .rxClr [] with ea := true } =
      ([.complete 0x50 0x3C], Peripheral.mk true []) := by decide

/-! ### Witnesses: for every obligation with hypotheses, states and operands that meet them, clause by clause. What
they show is that the hypotheses can hold together, at the boundaries of their ranges. -/

theorem witness_EncodeOfDecodedIsTheWord : decode 0x13FFFFFFFF = .ok (.init 0xFFFFFFFF 3) := by decide

theorem witness_DecodeFollowsTheMaskTable :
    decode 0x310000007F = .ok (.txaddr 0x7F 1) ∧
    ((Instr.txaddr 0 0).row ∈ opcodeTable ∧
      (0x310000007F : CmdWord) &&& (Instr.txaddr 0 0).row.mask = (Instr.txaddr 0 0).row.matchBits) ∧
    decode 0x3000000080 = .error (.mustBeZero "TXADDR") ∧
    (∀ r ∈ opcodeTable, (0x3000000080 : CmdWord) &&& r.mask ≠ r.matchBits) := by decide

theorem witness_AssembledLineCarriesItsOperands :
    (AsmCommand.txbyte 256).wellFormed = false ∧ 0xFFFFFFFF < 2 ^ 32 ∧ 127 < 128 ∧ 255 < 256 := by decide

theorem witness_StepRunsTheOfferedCommand :
    let s := offered 0x2000000000 [.block]
    s.turns = .block :: [] ∧ s.fsm = .idle ∧ s.cmdValid = true ∧ decode s.cmd = .ok .start := by decide

theorem witness_StepRunsTheOperationInFlight :
    ∀ m ∈ MicroState.all, m ≠ .idle → (inMicro m [.block]).turns = .block :: [] ∧
      (m ∈ [.initPs, .initBr, .initEn] ∨ m ∈ [.startCtl, .startPoll, .startChk] ∨ m ∈ [.txaData, .txaCtl, .txaPoll, .txaChk] ∨
        m ∈ [.txbData, .txbCtl, .txbPoll, .txbChk] ∨ m ∈ [.rxEa, .rxClr, .rxPoll, .rxChk, .rxData] ∨ m = .stopCtl ∨
        m = .wrPoll) := by decide

theorem witness_IdleBlockWaitsOrRefusesReservedWord :
    let s := offered 0x8000000000 [.block]
    s.turns = .block :: [] ∧ s.fsm = .idle ∧ s.cmdValid = true ∧ decode s.cmd = .error (.opcode 8) ∧
      (inMicro .idle [.block]).turns = .block :: [] ∧ (inMicro .idle [.block]).cmdValid = false := by decide

theorem witness_CommandsAreAcceptedInIdle :
    State.reset.fsm = .idle ∧ State.reset.sto = false ∧ (1 : BitVec 32) ≠ 0 ∧ (0xFFFFFFFF : BitVec 32) ≠ 0 := by decide

theorem witness_AcceptanceLatchesTheOfferedWord :
    let s := offered 0x1300000001 [.block]
    let u := offered 0x2000000000 [.block]
    (s.turns = .block :: [] ∧ s.fsm = .idle ∧ s.cmdValid = true ∧ decode s.cmd = .ok (.init 1 3)) ∧
      u.turns = .block :: [] ∧ u.fsm = .idle ∧ u.cmdValid = true ∧ decode u.cmd = .ok .start ∧ u.sto = false := by decide
theorem witness_AcceptanceLatchesTheOfferedWord_operand :
    (∀ ps, Instr.init 1 3 ≠ .init 0 ps) ∧ (∀ ps, Instr.start ≠ .init 0 ps) := by
  constructor <;> intro ps h <;> cases h

theorem witness_UnacceptableCommandsAreRefused :
    State.reset.fsm = .idle ∧ ({ State.reset with sto := true } : State).fsm = .idle ∧
      ({ State.reset with sto := true } : State).sto = true := by decide

theorem witness_StepIsRefusedOnlyAtAcceptance : HostDutiesKept (offered 0x2000000000 [.block]) :=
  fun _ _ => ⟨.start, rfl, rfl⟩
theorem witness_StepIsRefusedOnlyAtAcceptance_refused :
    refusalOf (step (offered 0x0FFFFFFFFF [.block])) = some (.reservedCommand 0x0FFFFFFFFF) ∧
    refusalOf (step (offered 0x1300000000 [.block])) = some .initFrequencyZero ∧
    refusalOf (step { offered 0x2000000000 [.block] with sto := true }) = some .startWhileStopPending := by decide

theorem witness_EngineStepsAsItsContractSays :
    let s := inMicro .startPoll [.complete 0x08 0xFF]
    (s.turns = .complete 0x08 0xFF :: [] ∧ s.en = true ∧ s.int = false) ∧
    ({ s with en := false } : State).en = false ∧ ({ s with int := true } : State).int = true ∧
    (inMicro .idle [.stopDone]).turns = .stopDone :: [] := by decide

theorem witness_ResetReachesIdleFromAnyState : (inMicro .txaPoll [.reset]).turns = .reset :: [] := by decide

theorem witness_RegisterReadsGiveTheWholeRegister :
    (4, 8) ∉ [(0, 16), (1, 8), (2, 2), (3, 8)] ∧ (0, 8) ∉ [(0, 16), (1, 8), (2, 2), (3, 8)] := by decide

theorem witness_RegisterWritesStoreAndKeepTheRest :
    (0x0008 : CsrWord).getLsbD 3 = true ∧ (0x0002 : CsrWord).getLsbD 1 = true ∧ (0x0001 : CsrWord).getLsbD 0 = true ∧
    ((0xFFF4 : CsrWord).getLsbD 3 = false ∧ (0xFFF4 : CsrWord).getLsbD 1 = false ∧ (0xFFF4 : CsrWord).getLsbD 0 = false) ∧
    (memWrite 3 8 0xAB State.reset).toOption = some { State.reset with data := 0xAB } ∧ (0 : Nat) ≠ 3 ∧
    (3, 16) ∉ [(0, 16), (1, 8), (2, 2), (3, 8)] := by decide

theorem witness_UnboundedPollWaitsForTheFlag :
    (inMicro .startPoll []).fsm = .startPoll ∧ (inMicro .txaPoll []).fsm = .txaPoll ∧
    (inMicro .txbPoll []).fsm = .txbPoll ∧ (inMicro .txbPoll []).int = false ∧
    ({ inMicro .txbPoll [] with int := true } : State).int = true := by decide

theorem witness_TransmitStepsWriteTheDataRegister :
    (inMicro .txaData []).fsm = .txaData ∧ (inMicro .txbData [.block]).fsm = .txbData ∧
    (inMicro .txbData [.block]).turns = .block :: [] := by decide

theorem witness_ControlWriteStepsSignalTheEngine :
    (inMicro .startCtl []).fsm = .startCtl ∧ (inMicro .txaCtl []).fsm = .txaCtl ∧ (inMicro .txbCtl []).fsm = .txbCtl ∧
    (inMicro .stopCtl []).fsm = .stopCtl := by decide

theorem witness_TransmitChecksReturnOkOrTheRawStatus :
    (inMicro .txaChk [.block]).fsm = .txaChk ∧ (inMicro .txaChk [.block]).turns = .block :: [] ∧
    (inMicro .txbChk []).fsm = .txbChk := by decide

theorem witness_StartCheckReturnsOkOrTheRawStatus : (inMicro .startChk []).fsm = .startChk := by decide

theorem witness_InitWritesThePrescaler :
    (inMicro .initPs [.block]).fsm = .initPs ∧ (inMicro .initPs [.block]).turns = .block :: [] := by decide

/-- V16 and V18: the quotients 16 and 15. -/
theorem witness_InitWritesTheDivisorThenEnables :
    let s := inMicro .initBr []
    s.fsm = .initBr ∧ 16 ≤ s.cfg.fRef / (1000000 : BitVec 32).toNat ∧ s.cfg.fRef / (1000001 : BitVec 32).toNat < 16 ∧
    (inMicro .initEn []).fsm = .initEn := by decide

/-- V12: the first divisor that does not fit. -/
theorem witness_DivisorAboveOneByteWraps :
    let s := inMicro .initBr []
    s.fsm = .initBr ∧ 16 ≤ s.cfg.fRef / (30303 : BitVec 32).toNat ∧
    255 < (s.cfg.fRef / (30303 : BitVec 32).toNat - 16) / (2 * 4 ^ (0 : BitVec 2).toNat) := by decide

theorem witness_DivisorIsARightShift : 16 ≤ Config.default.fRef / (1000000 : BitVec 32).toNat := by decide

theorem witness_ReceiveStepsFollowTheirRules :
    let s : State := { inMicro .rxChk [] with status := 0x58 }
    let u : State := { inMicro .rxChk [] with cfg := inverted, status := 0x58 }
    (inMicro .rxEa []).fsm = .rxEa ∧ (inMicro .rxClr []).fsm = .rxClr ∧ (inMicro .rxData []).fsm = .rxData ∧
    (s.fsm = .rxChk ∧
      ((s.status = s.cfg.stMrDataAck ∨ s.status = s.cfg.stMrDataNack) ↔ s.cfg.rxCheckInverted = false)) ∧
    (u.fsm = .rxChk ∧
      ((u.status = u.cfg.stMrDataAck ∨ u.status = u.cfg.stMrDataNack) ↔ u.cfg.rxCheckInverted = true)) := by decide

theorem witness_GuardIterationCountsDown :
    (inMicro .rxPoll []).fsm = .rxPoll ∧ (inMicro .wrPoll []).fsm = .wrPoll ∧ (inMicro .wrPoll []).cnt = 0 ∧
    (inMicro .wrPoll []).int = false ∧ ({ inMicro .wrPoll [] with cnt := 1, int := true } : State).cnt ≠ 0 ∧
    (∀ m ∈ [MicroState.rxPoll, .wrPoll], let s : State := { inMicro m [] with cnt := 1 }
      s.fsm = m ∧ s.cnt = 1 ∧ s.int = false) ∧
    1 < (2 : Byte).toNat ∧ 1 < (255 : Byte).toNat := by decide

theorem witness_InitFrame : nextOf (exec (.init 100000 3) (inMicro .initPs [])) =
    some { inMicro .initBr [] with ps := 3 } := by decide

theorem witness_TransmitFrame :
    nextOf (exec .start (inMicro .startCtl [])) = some { inMicro .startPoll [] with sta := true } ∧
    nextOf (exec (.txaddr 0x50 0) (inMicro .txaData [])) = some { inMicro .txaCtl [] with data := 0xA0 } ∧
    nextOf (exec (.txbyte 0xAB) (inMicro .txbData [])) = some { inMicro .txbCtl [] with data := 0xAB } := by decide

theorem witness_ReceiveFrame : nextOf (exec (.rxbyte .sendAck) (inMicro .rxEa [])) =
    some { inMicro .rxClr [] with ea := true } := by decide

theorem witness_WaitAndStopFrame :
    nextOf (exec .stop (inMicro .stopCtl [])) = some { inMicro .idle [] with sto := true } ∧
    nextOf (exec (.waitrdy 3) { inMicro .wrPoll [] with cnt := 3 }) = some { inMicro .wrPoll [] with cnt := 2 } := by decide

/-- `n` turns of the block, then `ts`. -/
def polls (n : Nat) (ts : List Turn) : List Turn := List.replicate n .block ++ ts

theorem witness_InitCompletesInThreeSteps :
    let s := offered 0x10000F4240 (polls 4 [])
    let u := offered 0x10000F4241 (polls 4 [])
    (s.fsm = .idle ∧ s.cmdValid = true ∧ decode s.cmd = .ok (.init 1000000 0) ∧ (1000000 : BitVec 32) ≠ 0 ∧
      16 ≤ s.cfg.fRef / (1000000 : BitVec 32).toNat) ∧
    (u.fsm = .idle ∧ u.cmdValid = true ∧ decode u.cmd = .ok (.init 1000001 0) ∧ (1000001 : BitVec 32) ≠ 0 ∧
      u.cfg.fRef / (1000001 : BitVec 32).toNat < 16) := by decide

/-- A schedule that mixes the moves of all agents, with the block's three turns among them. -/
theorem witness_InitCompletesInThreeSteps_schedule :
    let s := inMicro .initPs [.block, .complete 0x08 0x00, .offer 0x6000000000, .block, .stopDone, .withdraw, .block]
    s.fsm = .initPs ∧ (∀ t ∈ s.turns, t ≠ .reset) ∧ 3 ≤ s.turns.count .block ∧
    16 ≤ ({ s with limm := 1000000 } : State).cfg.fRef / ({ s with limm := 1000000 } : State).limm.toNat := by decide

/-- With no poll before the completion, and with two. -/
theorem witness_StartCompletesWhenTheEngineDoes :
    ∀ k ∈ [0, 2],
      let s := offered 0x2000000000 (polls (k + 2) [.complete 0x08 0xFF, .block, .block])
      s.fsm = .idle ∧ s.cmdValid = true ∧ decode s.cmd = .ok .start ∧ s.sto = false ∧
      s.turns = polls (k + 2) [.complete 0x08 0xFF, .block, .block] := by decide

theorem witness_TxaddrCompletesWhenTheEngineDoes :
    let s := offered 0x3100000050 (polls (0 + 3) [.complete 0x40 0xA1, .block, .block])
    s.fsm = .idle ∧ s.cmdValid = true ∧ decode s.cmd = .ok (.txaddr 0x50 1) ∧
    s.turns = polls (0 + 3) [.complete 0x40 0xA1, .block, .block] := by decide

theorem witness_TxbyteCompletesWhenTheEngineDoes :
    let s := offered 0x40000000AB (polls (0 + 3) [.complete 0x30 0xAB, .block, .block])
    s.fsm = .idle ∧ s.cmdValid = true ∧ decode s.cmd = .ok (.txbyte 0xAB) ∧
    s.turns = polls (0 + 3) [.complete 0x30 0xAB, .block, .block] := by decide

/-- X18, the longest reception, with 59 polls before the completion, and X3, a status error. -/
theorem witness_RxbyteCompletesWhenTheEngineDoes :
    let s := offered 0x5100000000 (polls (59 + 3) [.complete 0x50 0x99, .block, .block, .block])
    let u := offered 0x5000000000 (polls (0 + 3) [.complete 0x38 0x3C, .block, .block])
    (s.fsm = .idle ∧ s.cmdValid = true ∧ decode s.cmd = .ok (.rxbyte .sendAck) ∧ s.en = true ∧ 59 < 60 ∧
      (((0x50 : Byte) = s.cfg.stMrDataAck ∨ (0x50 : Byte) = s.cfg.stMrDataNack) ↔ s.cfg.rxCheckInverted = false) ∧
      s.turns = polls (59 + 3) [.complete 0x50 0x99, .block, .block, .block]) ∧
    (u.fsm = .idle ∧ u.cmdValid = true ∧ decode u.cmd = .ok (.rxbyte .sendNack) ∧ u.en = true ∧
      (((0x38 : Byte) = u.cfg.stMrDataAck ∨ (0x38 : Byte) = u.cfg.stMrDataNack) ↔ u.cfg.rxCheckInverted = true) ∧
      u.turns = polls (0 + 3) [.complete 0x38 0x3C, .block, .block]) := by decide

/-- X19, with the late completion; the state after the 63 steps is the one the statement names. -/
theorem witness_RxbyteTimesOutAfterSixtyReads :
    let s := offered 0x5100000000 (polls 63 [.complete 0x50 0x99])
    s.fsm = .idle ∧ s.cmdValid = true ∧ decode s.cmd = .ok (.rxbyte .sendAck) ∧ s.en = true ∧
    s.turns = polls 63 [.complete 0x50 0x99] ∧ (nextOf (run 63 s)).isSome = true := by decide

/-- W1 or W2, W14, W10, and W6. -/
theorem witness_WaitrdyTimesOutExactlyWhenTheBudgetRunsOut :
    (let s := offered 0x7000000000 [.block, .block];
      s.fsm = .idle ∧ s.cmdValid = true ∧ decode s.cmd = .ok (.waitrdy 0)) ∧
    (let s : State := { offered 0x70000000FF [.block, .block] with int := true };
      s.fsm = .idle ∧ s.cmdValid = true ∧ decode s.cmd = .ok (.waitrdy 255) ∧ (255 : Byte) ≠ 0 ∧ s.int = true) ∧
    (let s := offered 0x700000003C (polls (59 + 1) [.complete 0x50 0x99, .block]);
      s.fsm = .idle ∧ s.cmdValid = true ∧ decode s.cmd = .ok (.waitrdy 60) ∧ 59 < (60 : Byte).toNat ∧ s.int = false ∧
      s.en = true) ∧
    (let s := offered 0x7000000001 (polls ((1 : Byte).toNat + 1) []);
      s.fsm = .idle ∧ s.cmdValid = true ∧ decode s.cmd = .ok (.waitrdy 1) ∧ (1 : Byte) ≠ 0 ∧ s.int = false ∧
      s.turns = polls ((1 : Byte).toNat + 1) []) := by decide

theorem witness_StopCompletesInOneStep :
    let s := offered 0x6000000000 [.block, .block, .stopDone]
    s.fsm = .idle ∧ s.cmdValid = true ∧ decode s.cmd = .ok .stop ∧ s.turns = [.block, .block, .stopDone] ∧
    s.turns = List.append [Turn.block, Turn.block] [Turn.stopDone] := by decide
theorem witness_StopCompletesInOneStep_schedule :
    let s := inMicro .stopCtl [.complete 0x28 0xAB, .stopDone, .block]
    s.fsm = .stopCtl ∧ (∀ t ∈ s.turns, t ≠ .reset) ∧ 1 ≤ s.turns.count .block := by decide

theorem witness_UnboundedPollHangsOnADeadBus :
    let s := inMicro .txaPoll [.block, .offer 0x6000000000, .withdraw, .stopDone, .block]
    s.fsm ∈ [.startPoll, .txaPoll, .txbPoll] ∧ s.int = false ∧ 5 ≤ s.turns.length ∧ ∀ t ∈ s.turns.take 5, t ≠ .reset := by
  decide
theorem witness_UnboundedPollHangsOnADeadBus_engine :
    ∀ t ∈ (inMicro .txaPoll [.block, .offer 0x6000000000, .withdraw, .stopDone, .block]).turns.take 5,
      ∀ status data, t ≠ .complete status data := by
  intro t ht status data h
  subst h
  simp [inMicro] at ht

theorem witness_BoundedOperationsAlwaysComplete :
    let s := inMicro .rxEa (List.replicate 64 .block)
    let u := inMicro .wrPoll [.complete 0x08 0x00, .block]
    ((∀ t ∈ s.turns, t ≠ .reset) ∧ s.fsm = .rxEa ∧ 64 ≤ s.turns.count .block) ∧
    ((∀ t ∈ u.turns, t ≠ .reset) ∧ u.fsm = .wrPoll ∧ max 1 u.cnt.toNat ≤ u.turns.count .block) := by decide

theorem witness_AcknowledgedOperationsSucceed :
    let s := inMicro .rxEa []
    let p : Peripheral := { transactionOpen := true, script := [0x3C] }
    (inMicro .startCtl []).fsm = .startCtl ∧
    (inMicro .txaData []).inFlight = some (.txaddr 0 0) ∧ (inMicro .txaData []).fsm = .txaData ∧
    (inMicro .txbData []).inFlight = some (.txbyte 0) ∧ (inMicro .txbData []).fsm = .txbData ∧
    (s.fsm = .rxEa ∧ p.script = 0x3C :: [] ∧ s.en = true ∧ s.cfg.rxCheckInverted = false) ∧
    (inMicro .stopCtl []).fsm = .stopCtl := by decide

/-- A running reception in its poll state, with the flag about to be set. -/
def receiving : State :=
  { inMicro .rxPoll [.complete 0x50 0x3C] with lop := 5, lmod := 1, ea := true, cnt := 60 }

theorem witness_StepKeepsInvariant : Inv receiving where
  latchesNameOperation := by
    intro i h
    have hi : i = .rxbyte .sendAck := by simpa [receiving, inMicro, State.inFlight, State.latchedAck, AckPolicy.ofBit] using h.symm
    subst hi
    decide
  frequencyNotZero := by intro freq ps h; cases h
  noStopPendingAtStart := by decide
  noResultWhileBusy := by decide
  flagSetWhenChecked := by decide
  controlBitsOfPhase := by decide
  policyDriven := by decide
  receiveCounterInBudget := by decide
  waitCounterInBudget := by decide
theorem witness_StepKeepsInvariant_step : nextOf (step receiving) =
    some { receiving with turns := [], status := 0x50, data := 0x3C, int := true } := by decide

theorem witness_ConfigurationIsFixedForARun : (nextOf (run 4 (offered 0x1000002710 (List.replicate 4 .block)))).isSome = true := by
  decide

/-- A step that sets the flag, a block step that clears it, and a reset. -/
theorem witness_FlagIsSetAndClearedOnlyAsStated :
    (receiving.int = false ∧ get State.int (step receiving) = some true) ∧
    (get State.int (step { inMicro .rxClr [.block] with int := true }) = some false) ∧
    (takeTurn { inMicro .rxClr [.block] with int := true }).1 = .block ∧
    get State.int (step { inMicro .idle [.reset] with int := true }) = some false := by decide

theorem witness_EnableIsClearedOnlyByReset :
    get State.en (step (inMicro .txbPoll [.reset])) = some false ∧
    get State.en (step { inMicro .initEn [.block] with en := false }) = some true ∧
    (takeTurn (inMicro .stopCtl [.block])).1 = .block := by decide

theorem witness_StatusIsStableWhileReady :
    let s : State := { inMicro .txaData [.block] with int := true }
    s.int = true ∧ (takeTurn s).1 ≠ .reset ∧ get State.data (step s) = some 0x00 ∧ s.data ≠ 0x00 := by decide

theorem witness_ResultIsWrittenOnlyByCompletion :
    (get (fun t => (t.res, t.rvalid)) (step (inMicro .wrPoll [.block])) = some (0x02, true) ∧
      (takeTurn (inMicro .wrPoll [.block])).1 ≠ .reset) ∧
    get State.rvalid (step { offered 0x6000000000 [.block] with rvalid := true }) = some false := by decide

theorem witness_RunningOperationIgnoresTheHostLines :
    (inMicro .txaPoll [.block]).busy = true ∧ (inMicro .txaPoll [.block]).turns = .block :: [] := by decide

theorem witness_BlockNeverReadsTheDivider :
    let s := inMicro .initEn [.block]
    s.turns = .block :: [] ∧ s.fsm ∉ [.initPs, .initBr] ∧ (nextOf (step s)).isSome = true := by decide

theorem witness_OkMeansSuccess :
    let s : State := { inMicro .startChk [] with status := 0x08 }
    s.cfg.wf = true ∧ Config.hardwareStatusForm s.status = true ∧ s.fsm = .startChk ∧
    (inMicro .txaChk []).fsm = .txaChk ∧ (inMicro .txbChk []).fsm = .txbChk ∧
    Config.hardwareStatusForm 0xF8 = true := by decide

theorem witness_HostLinesAreWrittenByTheHostOnly :
    (inMicro .idle [.offer 0x2000000000]).turns = .offer 0x2000000000 :: [] ∧
    (offered 0x2000000000 [.withdraw]).turns = .withdraw :: [] ∧
    (nextOf (step (offered 0x2000000000 [.block]))).isSome = true ∧
    (takeTurn (offered 0x2000000000 [.block])).1 = .block := by decide

end Sys2Proof.Tests
end

section
/-! PROOFS. Which steps the machine refuses (spec/00_scope.md R13, spec/60_exceptions.md R206, R219). -/

namespace Sys2Proof.Machine

/-! ### The operations

Five operations are never refused; INIT and START are refused in `IDLE` only, when their precondition is broken. -/

theorem execTxaddr_next (addr : BitVec 7) (dir : BitVec 1) (s : State) : ∃ t, execTxaddr addr dir s = .next t := by
  unfold execTxaddr
  split
  · exact ⟨_, rfl⟩
  · exact ⟨_, writeThen_dr ..⟩
  · exact ⟨_, ctlWriteThen_transmit ..⟩
  · exact ⟨_, pollInt_eq ..⟩
  · exact ⟨_, checkStatus_eq ..⟩
  · exact ⟨_, rfl⟩

theorem execTxbyte_next (byte : Byte) (s : State) : ∃ t, execTxbyte byte s = .next t := by
  unfold execTxbyte
  split
  · exact ⟨_, rfl⟩
  · exact ⟨_, writeThen_dr ..⟩
  · exact ⟨_, ctlWriteThen_transmit ..⟩
  · exact ⟨_, pollInt_eq ..⟩
  · exact ⟨_, checkStatus_eq ..⟩
  · exact ⟨_, rfl⟩

theorem execRxbyte_next (ack : AckPolicy) (s : State) : ∃ t, execRxbyte ack s = .next t := by
  unfold execRxbyte
  split
  · exact ⟨_, rfl⟩
  · exact ⟨_, rfl⟩
  · exact ⟨_, rfl⟩
  · exact ⟨_, guardIteration_eq ..⟩
  · exact ⟨_, receiveCheck_eq ..⟩
  · exact ⟨_, readThen_dr ..⟩
  · exact ⟨_, rfl⟩

theorem execStop_next (s : State) : ∃ t, execStop s = .next t := by
  unfold execStop
  split
  · exact ⟨_, rfl⟩
  · exact ⟨_, ctlWriteThen_stop ..⟩
  · exact ⟨_, rfl⟩

theorem execWaitrdy_next (budget : Byte) (s : State) : ∃ t, execWaitrdy budget s = .next t := by
  unfold execWaitrdy
  split
  · exact ⟨_, rfl⟩
  · exact ⟨_, guardIteration_eq ..⟩
  · exact ⟨_, rfl⟩

theorem execInit_next_or_refused (freq : BitVec 32) (ps : BitVec 2) (s : State) :
    (∃ t, execInit freq ps s = .next t) ∨
      (s.fsm = .idle ∧ freq = 0 ∧ execInit freq ps s = .refused .initFrequencyZero) := by
  unfold execInit
  split
  next hidle =>
    by_cases hf : freq = 0
    · exact .inr ⟨hidle, hf, if_pos hf⟩
    · exact .inl ⟨_, if_neg hf⟩
  · exact .inl ⟨_, writeThen_psr ..⟩
  · exact .inl ⟨_, initWriteDivisor_eq ..⟩
  · exact .inl ⟨_, rfl⟩
  · exact .inl ⟨_, rfl⟩

theorem execStart_next_or_refused (s : State) :
    (∃ t, execStart s = .next t) ∨
      (s.fsm = .idle ∧ s.sto = true ∧ execStart s = .refused .startWhileStopPending) := by
  unfold execStart
  split
  next hidle =>
    by_cases hsto : s.sto = true
    · exact .inr ⟨hidle, hsto, if_pos hsto⟩
    · exact .inl ⟨_, if_neg hsto⟩
  · exact .inl ⟨_, ctlWriteThen_start ..⟩
  · exact .inl ⟨_, pollInt_eq ..⟩
  · exact .inl ⟨_, checkStatus_eq ..⟩
  · exact .inl ⟨_, rfl⟩

/-! ### The block's turn and the step -/

/-- The preconditions of acceptance that operation `i` breaks in `s`, with the refusal that names each
(spec/40_init.md R126, spec/41_start.md R145). -/
def PreconditionBroken (i : Instr) (s : State) (r : Refusal) : Prop :=
  (∃ ps, i = .init 0 ps ∧ r = .initFrequencyZero) ∨ (i = .start ∧ s.sto = true ∧ r = .startWhileStopPending)

theorem PreconditionBroken.not_acceptable {i : Instr} {s : State} {r : Refusal} (h : PreconditionBroken i s r) :
    acceptable i s = false := by
  obtain ⟨ps, rfl, -⟩ | ⟨rfl, hsto, -⟩ := h
  · rfl
  · simp [acceptable, hsto]

/-- One step of an operation answers a next state, unless it is its acceptance and breaks its precondition. -/
theorem exec_next_or_refused (i : Instr) (s : State) :
    (∃ t, exec i s = .next t) ∨ ∃ r, exec i s = .refused r ∧ s.fsm = .idle ∧ PreconditionBroken i s r := by
  cases i with
  | init freq ps =>
    obtain hnext | ⟨hidle, rfl, href⟩ := execInit_next_or_refused freq ps s
    · exact .inl hnext
    · exact .inr ⟨_, href, hidle, .inl ⟨ps, rfl, rfl⟩⟩
  | start =>
    obtain hnext | ⟨hidle, hsto, href⟩ := execStart_next_or_refused s
    · exact .inl hnext
    · exact .inr ⟨_, href, hidle, .inr ⟨rfl, hsto, rfl⟩⟩
  | txaddr addr dir => exact .inl (execTxaddr_next addr dir s)
  | txbyte byte => exact .inl (execTxbyte_next byte s)
  | rxbyte ack => exact .inl (execRxbyte_next ack s)
  | stop => exact .inl (execStop_next s)
  | waitrdy budget => exact .inl (execWaitrdy_next budget s)

/-- A running operation is never refused (spec/60_exceptions.md R206). -/
theorem exec_next_of_busy (i : Instr) {s : State} (h : s.fsm ≠ .idle) : ∃ t, exec i s = .next t := by
  obtain hnext | ⟨_, _, hidle, _⟩ := exec_next_or_refused i s
  · exact hnext
  · exact absurd hidle h

/-- In `IDLE` the host offers what breaks one of its three duties, and `r` names which (spec/60_exceptions.md R219). -/
def OfferBreaksDuty (s : State) (r : Refusal) : Prop :=
  s.fsm = .idle ∧ s.cmdValid = true ∧
    ((∃ e, decode s.cmd = .error e ∧ r = .reservedCommand s.cmd) ∨
      ∃ i, decode s.cmd = .ok i ∧ PreconditionBroken i s r)

/-- The host's duties rule out every refused offer. -/
theorem HostDutiesKept.not_offerBreaksDuty {s : State} (h : HostDutiesKept s) (r : Refusal) :
    ¬ OfferBreaksDuty s r := by
  rintro ⟨hidle, hvalid, hduty⟩
  obtain ⟨i, hi, hacc⟩ := h (by simp [State.busy, hidle]) hvalid
  obtain ⟨e, he, -⟩ | ⟨j, hj, hbroken⟩ := hduty
  · rw [hi] at he
    cases he
  · rw [hi] at hj
    cases hj
    simp [hbroken.not_acceptable] at hacc

theorem blockStep_next_or_refused (s : State) :
    (∃ t, blockStep s = .next t) ∨ ∃ r, blockStep s = .refused r ∧ OfferBreaksDuty s r := by
  cases hfl : s.inFlight with
  | some i =>
    have hbusy : s.fsm ≠ .idle := fun hidle => by simp [inFlight_idle hidle] at hfl
    rw [blockStep_inFlight hfl]
    exact .inl (exec_next_of_busy i hbusy)
  | none =>
    have hidle := inFlight_eq_none_iff.mp hfl
    cases hvalid : s.cmdValid with
    | false => exact .inl ⟨s, blockStep_waits hidle hvalid⟩
    | true =>
      cases hdec : decode s.cmd with
      | error e => exact .inr ⟨_, blockStep_reserved hidle hvalid hdec, hidle, hvalid, .inl ⟨e, hdec, rfl⟩⟩
      | ok i =>
        rw [blockStep_accepts hidle hvalid hdec]
        obtain hnext | ⟨r, href, -, hbroken⟩ := exec_next_or_refused i s
        · exact .inl hnext
        · exact .inr ⟨r, href, hidle, hvalid, .inr ⟨i, hdec, hbroken⟩⟩

/-- Only the block's own turn can be refused: the engine's and the host's moves always answer a next state. -/
theorem turnStep_next_or_refused (t : Turn) (s : State) :
    (∃ u, turnStep t s = .next u) ∨ ∃ r, turnStep t s = .refused r ∧ t = .block ∧ OfferBreaksDuty s r := by
  cases t with
  | block =>
    obtain hnext | ⟨r, href, hoffer⟩ := blockStep_next_or_refused s
    · exact .inl hnext
    · exact .inr ⟨r, href, rfl, hoffer⟩
  | complete status data => exact .inl ⟨_, rfl⟩
  | stopDone => exact .inl ⟨_, rfl⟩
  | reset => exact .inl ⟨_, rfl⟩
  | offer w => exact .inl ⟨_, rfl⟩
  | withdraw => exact .inl ⟨_, rfl⟩

/-- Choosing who moves touches only the schedule and the draw counter. -/
theorem takeTurn_snd_eq (s : State) : ∃ ts n, (takeTurn s).2 = { s with turns := ts, draws := n } := by
  unfold takeTurn
  split
  · exact ⟨_, s.draws, rfl⟩
  · exact ⟨s.turns, _, rfl⟩

/-- The offer that is looked at in a turn is the one before it. -/
theorem offerBreaksDuty_takeTurn {s : State} {r : Refusal} : OfferBreaksDuty (takeTurn s).2 r ↔ OfferBreaksDuty s r := by
  obtain ⟨ts, n, h⟩ := takeTurn_snd_eq s
  rw [h]
  rfl

theorem step_next_or_refused (s : State) :
    (∃ t, step s = .next t) ∨ ∃ r, step s = .refused r ∧ (takeTurn s).1 = .block ∧ OfferBreaksDuty s r := by
  obtain hnext | ⟨r, href, hblock, hoffer⟩ := turnStep_next_or_refused (takeTurn s).1 (takeTurn s).2
  · exact .inl hnext
  · exact .inr ⟨r, href, hblock, offerBreaksDuty_takeTurn.mp hoffer⟩

/-- A host that keeps its duties is never refused. -/
theorem step_next_of_hostDutiesKept {s : State} (h : HostDutiesKept s) : ∃ t, step s = .next t := by
  obtain hnext | ⟨r, -, -, hoffer⟩ := step_next_or_refused s
  · exact hnext
  · exact absurd hoffer (h.not_offerBreaksDuty r)

/-- A refused step is the block's turn on an offer that breaks a duty. -/
theorem block_and_offerBreaksDuty_of_step_refused {s : State} {r : Refusal} (h : step s = .refused r) :
    (takeTurn s).1 = .block ∧ OfferBreaksDuty s r := by
  obtain ⟨t, hnext⟩ | ⟨r', href, hblock, hoffer⟩ := step_next_or_refused s
  · rw [h] at hnext
    cases hnext
  · rw [h] at href
    cases href
    exact ⟨hblock, hoffer⟩

/-- Settles O12: the refused step is inverted through the turn, the fetch and the operation to the offer it looks at. -/
theorem stepIsRefusedOnlyAtAcceptance : Obligations.StepIsRefusedOnlyAtAcceptance := by
  intro s
  refine ⟨step_next_of_hostDutiesKept, fun r hr => ?_⟩
  obtain ⟨hblock, hidle, hvalid, hduty⟩ := block_and_offerBreaksDuty_of_step_refused hr
  refine ⟨hblock, hidle, hvalid, ?_⟩
  obtain hreserved | ⟨i, hi, ⟨ps, rfl, hr⟩ | ⟨rfl, hsto, hr⟩⟩ := hduty
  · exact .inl hreserved
  · exact .inr (.inl ⟨ps, hi, hr⟩)
  · exact .inr (.inr ⟨hi, hsto, hr⟩)

end Sys2Proof.Machine
end

section
/-! PROOFS. The decoder on encoded words, the operation in flight, the values after reset, and the packed CSR
(spec/10_state.md R24, R36, R38, R46; spec/30_encoding.md R95). -/

namespace Sys2Proof

/-! ### The decoder on encoded words -/

theorem extractLsb'_zero_setWidth {n m : Nat} (h : n ≤ m) (x : BitVec n) : (x.setWidth m).extractLsb' 0 n = x := by
  apply BitVec.eq_of_getLsbD_eq
  intro j hj
  simp [hj, hj.trans_le h]

theorem extractLsb'_setWidth_above {n m k : Nat} (x : BitVec n) : (x.setWidth m).extractLsb' n k = 0 := by
  apply BitVec.eq_of_getLsbD_eq
  intro j _
  simp [BitVec.getLsbD_extractLsb']

/-- The decoder inverts the encoder (spec/30_encoding.md R91 to R95). -/
theorem decode_encode (i : Instr) : decode (encode i) = .ok i := by
  simp only [decode, op_encode, modifier_encode, imm_encode]
  cases i with
  | init | txaddr | txbyte | waitrdy =>
    simp [Instr.op, Instr.modifier, Instr.imm, whenZero, extractLsb'_zero_setWidth, extractLsb'_setWidth_above]
  | start | stop => rfl
  | rxbyte ack => cases ack <;> rfl

end Sys2Proof

namespace Sys2Proof.Machine

/-! ### The operation in flight -/

theorem inFlight_init {s : State} (h : s.fsm ∈ [.initPs, .initBr, .initEn]) :
    s.inFlight = some (.init s.latchedFreq s.latchedPs) := by
  simp only [List.mem_cons, List.not_mem_nil, or_false] at h
  obtain h | h | h := h <;> simp only [State.inFlight, h]

theorem inFlight_start {s : State} (h : s.fsm ∈ [.startCtl, .startPoll, .startChk]) : s.inFlight = some .start := by
  simp only [List.mem_cons, List.not_mem_nil, or_false] at h
  obtain h | h | h := h <;> simp only [State.inFlight, h]

theorem inFlight_txaddr {s : State} (h : s.fsm ∈ [.txaData, .txaCtl, .txaPoll, .txaChk]) :
    s.inFlight = some (.txaddr s.latchedAddr s.latchedDir) := by
  simp only [List.mem_cons, List.not_mem_nil, or_false] at h
  obtain h | h | h | h := h <;> simp only [State.inFlight, h]

theorem inFlight_txbyte {s : State} (h : s.fsm ∈ [.txbData, .txbCtl, .txbPoll, .txbChk]) :
    s.inFlight = some (.txbyte s.latchedByte) := by
  simp only [List.mem_cons, List.not_mem_nil, or_false] at h
  obtain h | h | h | h := h <;> simp only [State.inFlight, h]

theorem inFlight_rxbyte {s : State} (h : s.fsm ∈ [.rxEa, .rxClr, .rxPoll, .rxChk, .rxData]) :
    s.inFlight = some (.rxbyte s.latchedAck) := by
  simp only [List.mem_cons, List.not_mem_nil, or_false] at h
  obtain h | h | h | h | h := h <;> simp only [State.inFlight, h]

theorem inFlight_stop {s : State} (h : s.fsm = .stopCtl) : s.inFlight = some .stop := by
  simp only [State.inFlight, h]

theorem inFlight_waitrdy {s : State} (h : s.fsm = .wrPoll) : s.inFlight = some (.waitrdy s.latchedByte) := by
  simp only [State.inFlight, h]

/-- The block's turn runs the operation in flight; taking the turn off the list does not change which that is. -/
theorem step_inFlight {s : State} {ts : List Turn} {i : Instr} (h : s.turns = .block :: ts) (hi : s.inFlight = some i) :
    step s = exec i { s with turns := ts } :=
  (step_cons h).trans (blockStep_inFlight hi)

/-- Settles O7, by the operation in flight in each group of micro-states. -/
theorem stepRunsTheOperationInFlight : Obligations.StepRunsTheOperationInFlight := by
  intro s ts h
  exact ⟨fun hm => step_inFlight h (inFlight_init hm), fun hm => step_inFlight h (inFlight_start hm),
    fun hm => step_inFlight h (inFlight_txaddr hm), fun hm => step_inFlight h (inFlight_txbyte hm),
    fun hm => step_inFlight h (inFlight_rxbyte hm), fun hm => step_inFlight h (inFlight_stop hm),
    fun hm => step_inFlight h (inFlight_waitrdy hm)⟩

/-! ### Reset and the packed register -/

/-- Settles O14: the step is the host's reset, whose state holds the values of R46 by definition. -/
theorem resetReachesIdleFromAnyState : Obligations.ResetReachesIdleFromAnyState := by
  intro s ts h
  exact ⟨hostReset { s with turns := ts }, step_cons h, by simp⟩

/-- Settles O15, by evaluating the reset state. -/
theorem resetStateHoldsTheStatedValues : Obligations.ResetStateHoldsTheStatedValues := by
  unfold Obligations.ResetStateHoldsTheStatedValues
  decide

/-- The control bits and the reserved bits of the packed register, below `STATUS` and `INT`. -/
theorem csr_controlBits (s : State) :
    s.csr.getLsbD 6 = s.ea ∧ s.csr.getLsbD 5 = s.sta ∧ s.csr.getLsbD 4 = s.sto ∧ s.csr.getLsbD 3 = false ∧
      s.csr.getLsbD 2 = s.en ∧ s.csr.getLsbD 1 = false ∧ s.csr.getLsbD 0 = false := by
  simp only [State.csr, BitVec.getLsbD_append]
  simp

/-- Settles O17: `STATUS` and `INT` by the model's own laws, the other bits by position in the concatenation. -/
theorem packedCsrHoldsItsFields : Obligations.PackedCsrHoldsItsFields := fun s =>
  ⟨csrStatus_csr s, csrInt_csr s, csr_controlBits s⟩

end Sys2Proof.Machine
end

section
/-! PROOFS. What a step of any agent can do, said once (spec/10_state.md R36, R40). -/

namespace Sys2Proof.Machine

/-! ### The block's turn outside `IDLE` -/

/-- The state after a status check. -/
def State.checked (success : Byte → Bool) (s : State) : State :=
  State.complete (if success s.status then s.cfg.ok else s.status) { s with tmp := s.status }

/-- The state after one iteration of the timeout guard. -/
def State.guarded (stay : MicroState) (ready : State → State) (s : State) : State :=
  if s.cnt = 0 then s.complete s.cfg.errBusDisconnected
  else if s.int then ready s
  else if s.cnt - 1 = 0 then State.complete s.cfg.errBusDisconnected { s with cnt := s.cnt - 1 }
  else State.goto stay { s with cnt := s.cnt - 1 }

/-- The state after the block's turn in each micro-state of an operation, with the operands in the latches (`blockStep_busy`); in
`IDLE`, where none runs, it is `s`. -/
def State.microNext (s : State) : State :=
  match s.fsm with
  | .idle => s
  | .initPs => State.goto .initBr { s with ps := s.latchedPs }
  | .initBr =>
    match divisor s.cfg s.latchedFreq s.latchedPs with
    | some br => State.goto .initEn { s with br := br }
    | none => State.goto .initEn { s with br := Config.draw 8 s.draws, draws := s.draws + 1 }
  | .initEn => (s.fieldWrite (.en true)).completeVoid
  | .startCtl => State.goto .startPoll { s with int := false, ea := false, sta := true, sto := false, en := true }
  | .startPoll => s.goto (if s.int then .startChk else .startPoll)
  | .startChk => s.checked (startSuccess s.cfg)
  | .txaData => State.goto .txaCtl { s with data := slaByte s.latchedAddr s.latchedDir }
  | .txaCtl => State.goto .txaPoll { s with int := false, ea := false, sta := false, sto := false, en := true }
  | .txaPoll => s.goto (if s.int then .txaChk else .txaPoll)
  | .txaChk => s.checked fun status => status == slaAck s.cfg s.latchedDir
  | .txbData => State.goto .txbCtl { s with data := s.latchedByte }
  | .txbCtl => State.goto .txbPoll { s with int := false, ea := false, sta := false, sto := false, en := true }
  | .txbPoll => s.goto (if s.int then .txbChk else .txbPoll)
  | .txbChk => s.checked fun status => status == s.cfg.stMtDataAck
  | .rxEa => (s.fieldWrite (.ea s.latchedAck.bit)).goto .rxClr
  | .rxClr => { (s.fieldWrite .flagClear) with cnt := rxBudget, fsm := .rxPoll }
  | .rxPoll => s.guarded .rxPoll (State.goto .rxChk)
  | .rxChk =>
    if rxHit s.cfg s.status ^^ s.cfg.rxCheckInverted then State.goto .rxData { s with tmp := s.status }
    else State.complete s.cfg.errTransmission { s with tmp := s.status }
  | .rxData => s.complete s.data
  | .wrPoll => s.guarded .wrPoll (State.complete s.cfg.ok)
  | .stopCtl => State.completeVoid { s with int := false, ea := false, sta := false, sto := true, en := true }

theorem blockStep_init {s : State} (h : s.fsm ∈ [.initPs, .initBr, .initEn]) : blockStep s = .next s.microNext := by
  rw [blockStep_inFlight (inFlight_init h), exec]
  obtain h | h | h : s.fsm = .initPs ∨ s.fsm = .initBr ∨ s.fsm = .initEn := by simpa using h
  · simp [execInit, State.microNext, h]
  · cases hdiv : divisor s.cfg s.latchedFreq s.latchedPs <;>
      simp [execInit, State.microNext, h, initWriteDivisor_eq, hdiv]
  · simp [execInit, State.microNext, h]

theorem blockStep_start {s : State} (h : s.fsm ∈ [.startCtl, .startPoll, .startChk]) :
    blockStep s = .next s.microNext := by
  rw [blockStep_inFlight (inFlight_start h), exec]
  obtain h | h | h : s.fsm = .startCtl ∨ s.fsm = .startPoll ∨ s.fsm = .startChk := by simpa using h
  · simp [execStart, State.microNext, h]
  · simp [execStart, State.microNext, h, pollInt_eq]
  · simp [execStart, State.microNext, h, checkStatus_eq, State.checked]

theorem blockStep_txaddr {s : State} (h : s.fsm ∈ [.txaData, .txaCtl, .txaPoll, .txaChk]) :
    blockStep s = .next s.microNext := by
  rw [blockStep_inFlight (inFlight_txaddr h), exec]
  obtain h | h | h | h : s.fsm = .txaData ∨ s.fsm = .txaCtl ∨ s.fsm = .txaPoll ∨ s.fsm = .txaChk := by simpa using h
  · simp [execTxaddr, State.microNext, h]
  · simp [execTxaddr, State.microNext, h]
  · simp [execTxaddr, State.microNext, h, pollInt_eq]
  · simp [execTxaddr, State.microNext, h, checkStatus_eq, State.checked]

theorem blockStep_txbyte {s : State} (h : s.fsm ∈ [.txbData, .txbCtl, .txbPoll, .txbChk]) :
    blockStep s = .next s.microNext := by
  rw [blockStep_inFlight (inFlight_txbyte h), exec]
  obtain h | h | h | h : s.fsm = .txbData ∨ s.fsm = .txbCtl ∨ s.fsm = .txbPoll ∨ s.fsm = .txbChk := by simpa using h
  · simp [execTxbyte, State.microNext, h]
  · simp [execTxbyte, State.microNext, h]
  · simp [execTxbyte, State.microNext, h, pollInt_eq]
  · simp [execTxbyte, State.microNext, h, checkStatus_eq, State.checked]

theorem blockStep_rxbyte {s : State} (h : s.fsm ∈ [.rxEa, .rxClr, .rxPoll, .rxChk, .rxData]) :
    blockStep s = .next s.microNext := by
  rw [blockStep_inFlight (inFlight_rxbyte h), exec]
  obtain h | h | h | h | h :
      s.fsm = .rxEa ∨ s.fsm = .rxClr ∨ s.fsm = .rxPoll ∨ s.fsm = .rxChk ∨ s.fsm = .rxData := by simpa using h
  · simp [execRxbyte, State.microNext, h]
  · simp [execRxbyte, State.microNext, h]
  · simp [execRxbyte, State.microNext, h, guardIteration_eq, State.guarded]
  · simp [execRxbyte, State.microNext, h, receiveCheck_eq]
  · simp [execRxbyte, State.microNext, h]

theorem blockStep_stop {s : State} (h : s.fsm = .stopCtl) : blockStep s = .next s.microNext := by
  rw [blockStep_inFlight (inFlight_stop h), exec]
  simp [execStop, State.microNext, h]

theorem blockStep_waitrdy {s : State} (h : s.fsm = .wrPoll) : blockStep s = .next s.microNext := by
  rw [blockStep_inFlight (inFlight_waitrdy h), exec]
  simp [execWaitrdy, State.microNext, h, guardIteration_eq, State.guarded]

/-- Outside `IDLE` the block's turn is never refused and ends in `microNext` (spec/10_state.md R36). -/
theorem blockStep_busy {s : State} (hbusy : s.fsm ≠ .idle) : blockStep s = .next s.microNext := by
  cases h : s.fsm with
  | idle => exact absurd h hbusy
  | initPs | initBr | initEn => exact blockStep_init (by simp [h])
  | startCtl | startPoll | startChk => exact blockStep_start (by simp [h])
  | txaData | txaCtl | txaPoll | txaChk => exact blockStep_txaddr (by simp [h])
  | txbData | txbCtl | txbPoll | txbChk => exact blockStep_txbyte (by simp [h])
  | rxEa | rxClr | rxPoll | rxChk | rxData => exact blockStep_rxbyte (by simp [h])
  | wrPoll => exact blockStep_waitrdy h
  | stopCtl => exact blockStep_stop h

/-! ### What the block's turn keeps and changes outside `IDLE` -/

/-- One iteration of the guard is a time-out, a hit, or a wait with a counter that is not yet spent. -/
theorem guarded_cases (stay : MicroState) (ready : State → State) (s : State) :
    (∃ n, s.guarded stay ready = State.complete s.cfg.errBusDisconnected { s with cnt := n }) ∨
      (s.cnt ≠ 0 ∧ s.int = true ∧ s.guarded stay ready = ready s) ∨
      (s.cnt ≠ 0 ∧ s.cnt - 1 ≠ 0 ∧ s.guarded stay ready = State.goto stay { s with cnt := s.cnt - 1 }) := by
  unfold State.guarded
  split_ifs with hspent hint hlast
  · exact .inl ⟨s.cnt, rfl⟩
  · exact .inr (.inl ⟨hspent, hint, rfl⟩)
  · exact .inl ⟨s.cnt - 1, rfl⟩
  · exact .inr (.inr ⟨hspent, hlast, rfl⟩)

/-- No turn of a running operation writes the configuration or the latches (spec/10_state.md R38, R45). -/
theorem microNext_keeps (s : State) :
    s.microNext.cfg = s.cfg ∧ s.microNext.lop = s.lop ∧ s.microNext.lmod = s.lmod ∧ s.microNext.limm = s.limm := by
  cases h : s.fsm with
  | initBr => simp only [State.microNext, h]; split <;> simp
  | rxPoll | wrPoll => simp only [State.microNext, State.guarded, h]; split_ifs <;> simp
  | rxChk => simp only [State.microNext, h]; split_ifs <;> simp
  | _ => simp [State.microNext, State.checked, h]

/-- The host's lines pass through a running operation's turn unseen (spec/10_state.md R38). -/
theorem microNext_hostLines (w : CmdWord) (v : Bool) (s : State) :
    State.microNext { s with cmd := w, cmdValid := v } = { s.microNext with cmd := w, cmdValid := v } := by
  cases h : s.fsm with
  | initBr =>
    simp only [State.microNext, h, State.latchedFreq, State.latchedPs]
    split <;> rfl
  | rxPoll | wrPoll =>
    simp only [State.microNext, h, State.guarded]
    split_ifs <;> rfl
  | rxChk =>
    simp only [State.microNext, h]
    split_ifs <;> rfl
  | _ => simp only [State.microNext, h] <;> rfl

/-- The micro-states whose turn sets `EN` (spec/10_state.md R29, spec/20_memory.md R75). -/
def enablingStates : List MicroState := [.initEn, .startCtl, .txaCtl, .txbCtl, .stopCtl]

theorem microNext_en (s : State) : s.microNext.en = (s.en || decide (s.fsm ∈ enablingStates)) := by
  cases h : s.fsm with
  | initBr => simp only [State.microNext, h]; split <;> simp [enablingStates]
  | rxPoll | wrPoll => simp only [State.microNext, State.guarded, h]; split_ifs <;> simp [enablingStates]
  | rxChk => simp only [State.microNext, h]; split_ifs <;> simp [enablingStates]
  | _ => simp [State.microNext, State.checked, enablingStates, h]

/-- The micro-states whose turn can complete with a result (spec/10_state.md R41). -/
def resultStates : List MicroState := [.startChk, .txaChk, .txbChk, .rxPoll, .rxChk, .rxData, .wrPoll]

/-- A state in which an operation goes on from `s`, with the result channel as it was. -/
def GoesOn (s t : State) : Prop := t.inFlight = s.inFlight ∧ t.res = s.res ∧ t.rvalid = s.rvalid

/-- A state in which an operation has completed from `s` without a result (spec/00_scope.md R12). -/
def EndsVoid (s t : State) : Prop := t.fsm = .idle ∧ t.res = s.res ∧ t.rvalid = s.rvalid

/-- A state in which an operation has completed from `s` with a result (spec/00_scope.md R12). -/
def EndsWithResult (s t : State) : Prop := s.fsm ∈ resultStates ∧ t.fsm = .idle ∧ t.rvalid = true

/-- A turn of a running operation goes on with it or completes it. -/
theorem microNext_outcome (s : State) :
    GoesOn s s.microNext ∨ EndsVoid s s.microNext ∨ EndsWithResult s s.microNext := by
  cases h : s.fsm with
  | idle => exact .inl (by simp [GoesOn, State.microNext, h])
  | initEn | stopCtl => exact .inr (.inl (by simp [EndsVoid, State.microNext, h]))
  | startChk | txaChk | txbChk | rxData =>
    exact .inr (.inr (by simp [EndsWithResult, resultStates, State.microNext, State.checked, h]))
  | initPs =>
    simp only [State.microNext, h]
    exact .inl ⟨(inFlight_init (s := s) (by simp [h])).symm, rfl, rfl⟩
  | initBr =>
    simp only [State.microNext, h]
    split <;> exact .inl ⟨(inFlight_init (s := s) (by simp [h])).symm, rfl, rfl⟩
  | startCtl =>
    simp only [State.microNext, h]
    exact .inl ⟨(inFlight_start (s := s) (by simp [h])).symm, rfl, rfl⟩
  | startPoll =>
    simp only [State.microNext, h]
    split_ifs <;> exact .inl ⟨(inFlight_start (s := s) (by simp [h])).symm, rfl, rfl⟩
  | txaData | txaCtl =>
    simp only [State.microNext, h]
    exact .inl ⟨(inFlight_txaddr (s := s) (by simp [h])).symm, rfl, rfl⟩
  | txaPoll =>
    simp only [State.microNext, h]
    split_ifs <;> exact .inl ⟨(inFlight_txaddr (s := s) (by simp [h])).symm, rfl, rfl⟩
  | txbData | txbCtl =>
    simp only [State.microNext, h]
    exact .inl ⟨(inFlight_txbyte (s := s) (by simp [h])).symm, rfl, rfl⟩
  | txbPoll =>
    simp only [State.microNext, h]
    split_ifs <;> exact .inl ⟨(inFlight_txbyte (s := s) (by simp [h])).symm, rfl, rfl⟩
  | rxEa | rxClr =>
    simp only [State.microNext, h]
    exact .inl ⟨(inFlight_rxbyte (s := s) (by simp [h])).symm, rfl, rfl⟩
  | rxPoll =>
    simp only [State.microNext, h]
    obtain ⟨n, hg⟩ | ⟨-, -, hg⟩ | ⟨-, -, hg⟩ := guarded_cases .rxPoll (State.goto .rxChk) s <;> rw [hg]
    · exact .inr (.inr ⟨by simp [resultStates, h], rfl, rfl⟩)
    · exact .inl ⟨(inFlight_rxbyte (s := s) (by simp [h])).symm, rfl, rfl⟩
    · exact .inl ⟨(inFlight_rxbyte (s := s) (by simp [h])).symm, rfl, rfl⟩
  | rxChk =>
    simp only [State.microNext, h]
    split_ifs
    · exact .inl ⟨(inFlight_rxbyte (s := s) (by simp [h])).symm, rfl, rfl⟩
    · exact .inr (.inr ⟨by simp [resultStates, h], rfl, rfl⟩)
  | wrPoll =>
    simp only [State.microNext, h]
    obtain ⟨n, hg⟩ | ⟨-, -, hg⟩ | ⟨-, -, hg⟩ := guarded_cases .wrPoll (State.complete s.cfg.ok) s <;> rw [hg]
    · exact .inr (.inr ⟨by simp [resultStates, h], rfl, rfl⟩)
    · exact .inr (.inr ⟨by simp [resultStates, h], rfl, rfl⟩)
    · exact .inl ⟨(inFlight_waitrdy h).symm, rfl, rfl⟩

/-! ### Acceptance -/

/-- The state after the block accepts operation `i` (spec/30_encoding.md R107): WAITRDY also loads `CNT`. -/
def State.accepted (i : Instr) (s : State) : State :=
  match i with
  | .waitrdy budget => { (s.accept (.waitrdy budget)) with cnt := budget }
  | i => s.accept i

/-- In `IDLE` an operation that answers a next state was acceptable and has been accepted. -/
theorem acceptable_and_accepted_of_exec {i : Instr} {s t : State} (hidle : s.fsm = .idle) (h : exec i s = .next t) :
    acceptable i s = true ∧ t = s.accepted i := by
  cases i with
  | init freq ps =>
    simp only [exec, execInit, hidle] at h
    split_ifs at h with hfreq
    cases h
    exact ⟨bne_iff_ne.mpr hfreq, rfl⟩
  | start =>
    simp only [exec, execStart, hidle] at h
    split_ifs at h with hsto
    cases h
    exact ⟨by simp [acceptable, hsto], rfl⟩
  | txaddr | txbyte | rxbyte | stop | waitrdy =>
    simp only [exec, execTxaddr, execTxbyte, execRxbyte, execStop, execWaitrdy, hidle] at h
    cases h
    exact ⟨rfl, rfl⟩

@[simp] theorem State.accepted_fsm (i : Instr) (s : State) : (s.accepted i).fsm = firstState i := by
  cases i <;> rfl

@[simp] theorem State.accepted_en (i : Instr) (s : State) : (s.accepted i).en = s.en := by
  cases i <;> rfl

@[simp] theorem State.accepted_res (i : Instr) (s : State) : (s.accepted i).res = s.res := by
  cases i <;> rfl

@[simp] theorem State.accepted_rvalid (i : Instr) (s : State) : (s.accepted i).rvalid = false := by
  cases i <;> rfl

@[simp] theorem State.accepted_cfg (i : Instr) (s : State) : (s.accepted i).cfg = s.cfg := by
  cases i <;> rfl

theorem firstState_ne_idle (i : Instr) : firstState i ≠ .idle := by
  cases i <;> simp [firstState]

/-! ### The moves of the agents -/

/-- Everything a step can be: the block's turn waits, accepts the offer or steps the operation in flight, or the engine or the
host moves. -/
inductive Move (s : State) : Turn → State → Prop
  | wait (hidle : s.fsm = .idle) (hnone : s.cmdValid = false) : Move s .block s
  | accept (i : Instr) (hidle : s.fsm = .idle) (hoffer : s.cmdValid = true) (hdec : decode s.cmd = .ok i)
    (hacc : acceptable i s = true) : Move s .block (s.accepted i)
  | run (hbusy : s.fsm ≠ .idle) : Move s .block s.microNext
  | complete (status data : Byte) : Move s (.complete status data) (engineComplete status data s)
  | stopDone : Move s .stopDone (engineStopDone s)
  | reset : Move s .reset (hostReset s)
  | offer (w : CmdWord) : Move s (.offer w) (hostOffer w s)
  | withdraw : Move s .withdraw (hostWithdraw s)

theorem move_of_blockStep {s t : State} (h : blockStep s = .next t) : Move s .block t := by
  by_cases hidle : s.fsm = .idle
  · cases hvalid : s.cmdValid with
    | false =>
      rw [blockStep_waits hidle hvalid] at h
      cases h
      exact .wait hidle hvalid
    | true =>
      cases hdec : decode s.cmd with
      | error e =>
        rw [blockStep_reserved hidle hvalid hdec] at h
        cases h
      | ok i =>
        rw [blockStep_accepts hidle hvalid hdec] at h
        obtain ⟨hacc, rfl⟩ := acceptable_and_accepted_of_exec hidle h
        exact .accept i hidle hvalid hdec hacc
  · rw [blockStep_busy hidle] at h
    cases h
    exact .run hidle

theorem move_of_turnStep {u : Turn} {s t : State} (h : turnStep u s = .next t) : Move s u t := by
  cases u with
  | block => exact move_of_blockStep h
  | complete status data => cases h; exact .complete status data
  | stopDone => cases h; exact .stopDone
  | reset => cases h; exact .reset
  | offer w => cases h; exact .offer w
  | withdraw => cases h; exact .withdraw

/-- A step is a move from a state that differs from `s` at most in the schedule and the draw counter. -/
theorem exists_move_of_step {s t : State} (h : step s = .next t) :
    ∃ ts n, Move { s with turns := ts, draws := n } (takeTurn s).1 t := by
  obtain ⟨ts, n, hs⟩ := takeTurn_snd_eq s
  exact ⟨ts, n, hs ▸ move_of_turnStep h⟩

end Sys2Proof.Machine
end

section
/-! PROOFS. What every step keeps of the configuration, `EN`, the result channel and the latches (spec/10_state.md R29, R38, R41, R42,
R45). -/

namespace Sys2Proof.Machine

/-- No move writes the configuration (spec/10_state.md R45). -/
theorem Move.cfg_eq {s t : State} {u : Turn} (h : Move s u t) : t.cfg = s.cfg := by
  cases h with
  | wait => rfl
  | accept i => exact State.accepted_cfg i s
  | run => exact (microNext_keeps s).1
  | complete status data => exact engineComplete_cfg status data s
  | stopDone | reset | offer | withdraw => rfl

theorem step_cfg {s t : State} (h : step s = .next t) : t.cfg = s.cfg := by
  obtain ⟨ts, n, hm⟩ := exists_move_of_step h
  exact hm.cfg_eq

/-- Settles O49: no move writes the configuration, so by induction no run does. -/
theorem configurationIsFixedForARun : Obligations.ConfigurationIsFixedForARun := by
  intro n s t h
  exact run_induction (P := fun u => u.cfg = s.cfg) (fun _ _ hu hstep => (step_cfg hstep).trans hu) rfl h

/-- What each move does to `EN`: reset clears it, a turn in an enabling micro-state sets it, and nothing else writes it. -/
theorem Move.en_eq {s t : State} {u : Turn} (h : Move s u t) :
    (u = .reset ∧ t.en = false) ∨ (u = .block ∧ s.fsm ∈ enablingStates ∧ t.en = true) ∨
      (¬ (u = .block ∧ s.fsm ∈ enablingStates) ∧ t.en = s.en) := by
  cases h with
  | wait hidle => exact .inr (.inr ⟨by simp [hidle, enablingStates], rfl⟩)
  | accept i hidle => exact .inr (.inr ⟨by simp [hidle, enablingStates], State.accepted_en i s⟩)
  | run =>
    by_cases hm : s.fsm ∈ enablingStates
    · exact .inr (.inl ⟨rfl, hm, by simp [microNext_en, hm]⟩)
    · exact .inr (.inr ⟨by simp [hm], by simp [microNext_en, hm]⟩)
  | reset => exact .inl ⟨rfl, rfl⟩
  | complete status data => exact .inr (.inr ⟨by simp, engineComplete_en status data s⟩)
  | stopDone | offer | withdraw => exact .inr (.inr ⟨by simp, rfl⟩)

/-- Settles O51, from what each move does to `EN`. -/
theorem enableIsClearedOnlyByReset : Obligations.EnableIsClearedOnlyByReset := by
  intro s t h
  obtain ⟨ts, n, hm⟩ := exists_move_of_step h
  obtain ⟨hu, ht⟩ | ⟨hu, hmem, ht⟩ | ⟨hnot, ht⟩ := hm.en_eq
  · simp [hu, ht]
  · exact ⟨by simp [ht], fun _ _ => ⟨hu, hmem⟩, fun _ _ => ht⟩
  · exact ⟨fun hs hc => by simp [ht, hs] at hc, fun hs hc => by simp [ht, hs] at hc,
      fun hb hmem => absurd ⟨hb, hmem⟩ hnot⟩

/-- What each move but reset does to the result channel: it keeps it, or a turn of a running operation completes with a result,
or acceptance clears `RVALID` (spec/10_state.md R41, R42). -/
theorem Move.result_cases {s t : State} {u : Turn} (h : Move s u t) (hreset : u ≠ .reset) :
    (t.res = s.res ∧ t.rvalid = s.rvalid) ∨ (u = .block ∧ EndsWithResult s t) ∨
      (u = .block ∧ s.fsm = .idle ∧ s.cmdValid = true ∧ t.busy = true ∧ t.res = s.res ∧ t.rvalid = false) := by
  cases h with
  | wait => exact .inl ⟨rfl, rfl⟩
  | accept i hidle hoffer =>
    exact .inr (.inr ⟨rfl, hidle, hoffer, by simp [State.busy, firstState_ne_idle], by simp, by simp⟩)
  | run =>
    obtain ⟨-, hkept⟩ | ⟨-, hkept⟩ | hends := microNext_outcome s
    · exact .inl hkept
    · exact .inl hkept
    · exact .inr (.inl ⟨rfl, hends⟩)
  | complete status data => exact .inl ⟨engineComplete_res status data s, engineComplete_rvalid status data s⟩
  | stopDone | offer | withdraw => exact .inl ⟨rfl, rfl⟩
  | reset => exact absurd rfl hreset

/-- Settles O53, from what each move does to the result channel. -/
theorem resultIsWrittenOnlyByCompletion : Obligations.ResultIsWrittenOnlyByCompletion := by
  intro s t h hreset
  obtain ⟨ts, n, hm⟩ := exists_move_of_step h
  obtain ⟨hres, hrvalid⟩ | ⟨hu, hmem, hidle, hvalid⟩ | ⟨hu, hidle, hoffer, hbusy, hres, hrvalid⟩ :=
    hm.result_cases hreset
  · exact ⟨fun hw => by simp [hres, hrvalid] at hw, fun hv hc => by simp [hrvalid, hv] at hc⟩
  · exact ⟨fun _ => ⟨hu, hmem, hidle, hvalid⟩, fun _ hc => by simp [hvalid] at hc⟩
  · exact ⟨fun hw => by simp [hres, hrvalid] at hw, fun _ _ => ⟨hu, hidle, hoffer, hbusy⟩⟩

theorem microNext_latchedWord (s : State) : s.microNext.latchedWord = s.latchedWord := by
  obtain ⟨-, hlop, hlmod, hlimm⟩ := microNext_keeps s
  simp only [State.latchedWord, hlop, hlmod, hlimm]

theorem step_busy {s : State} {ts : List Turn} (hbusy : s.busy = true) (h : s.turns = .block :: ts) :
    step s = .next (State.microNext { s with turns := ts }) :=
  (step_cons h).trans (blockStep_busy (by simpa [State.busy] using hbusy))

/-- Settles O54: a running operation's turn is `microNext`, which neither reads nor writes the host's lines or the latches. -/
theorem runningOperationIgnoresTheHostLines : Obligations.RunningOperationIgnoresTheHostLines := by
  intro s ts hbusy h
  refine ⟨_, step_busy hbusy h, microNext_latchedWord _, fun w v => ?_⟩
  exact (step_busy (s := { s with cmd := w, cmdValid := v }) hbusy h).trans
    (congrArg _ (microNext_hostLines w v { s with turns := ts }))

end Sys2Proof.Machine
end

section
/-! PROOFS. Every step keeps the invariant (spec/10_state.md R25, R36 to R38, R42). -/

namespace Sys2Proof.Machine

/-! ### The invariant, by micro-state

`Inv` says of each rule in which micro-states it holds. Read the other way round it is a fact about the latches and one fact
for each micro-state, which is the form in which a turn keeps it. -/

/-- The latches hold the word of the operation in flight, which was acceptable, and no result is valid. -/
def OperationLatched (s : State) : Prop :=
  ∀ i, s.inFlight = some i →
    decode s.latchedWord = .ok i ∧ (∀ freq ps, i = .init freq ps → freq ≠ 0) ∧ s.rvalid = false

/-- The control bits after a waiting operation's control write, with `STA` as it wrote it. -/
def ControlBits (sta : Bool) (s : State) : Prop := s.en = true ∧ s.ea = false ∧ s.sto = false ∧ s.sta = sta

/-- What is true of the flag, the control bits and the counter in the micro-state that `FSM` is. -/
def PhaseFacts (s : State) : Prop :=
  match s.fsm with
  | .startCtl => s.sto = false
  | .startPoll => ControlBits true s
  | .startChk => ControlBits true s ∧ s.int = true
  | .txaPoll | .txbPoll => ControlBits false s
  | .txaChk | .txbChk => ControlBits false s ∧ s.int = true
  | .rxClr => s.ea = s.latchedAck.bit
  | .rxPoll => s.ea = s.latchedAck.bit ∧ 1 ≤ s.cnt.toNat ∧ s.cnt.toNat ≤ 60
  | .rxChk | .rxData => (s.ea = s.latchedAck.bit ∧ 1 ≤ s.cnt.toNat ∧ s.cnt.toNat ≤ 60) ∧ s.int = true
  | .wrPoll => s.cnt.toNat ≤ s.latchedByte.toNat ∧ (s.cnt = 0 → s.latchedByte = 0)
  | .idle | .initPs | .initBr | .initEn | .txaData | .txaCtl | .txbData | .txbCtl | .rxEa | .stopCtl => True

theorem Inv.operationLatched {s : State} (h : Inv s) : OperationLatched s := by
  intro i hi
  have hbusy : s.fsm ≠ .idle := fun hidle => by simp [inFlight_idle hidle] at hi
  refine ⟨h.latchesNameOperation i hi, ?_, h.noResultWhileBusy (by simp [State.busy, hbusy])⟩
  rintro freq ps rfl
  exact h.frequencyNotZero freq ps hi

theorem Inv.controlBits {s : State} (h : Inv s) (hm : s.fsm ∈ afterControlWrite) :
    ControlBits (decide (s.fsm = .startPoll ∨ s.fsm = .startChk)) s := by
  obtain ⟨hen, hea, hsto, hsta⟩ := h.controlBitsOfPhase hm
  exact ⟨hen, hea, hsto, Bool.eq_iff_iff.mpr (hsta.trans decide_eq_true_iff.symm)⟩

theorem Inv.phaseFacts {s : State} (h : Inv s) : PhaseFacts s := by
  have hbits := h.controlBits
  have hflag := h.flagSetWhenChecked
  have hack := h.policyDriven
  have hcnt := h.receiveCounterInBudget
  cases hm : s.fsm with
  | startCtl => simpa [PhaseFacts, hm] using h.noStopPendingAtStart hm
  | startPoll | txaPoll | txbPoll => simpa [PhaseFacts, hm, afterControlWrite] using hbits
  | startChk | txaChk | txbChk => simpa [PhaseFacts, hm, afterControlWrite, checkStates] using And.intro hbits hflag
  | rxClr => simpa [PhaseFacts, hm, afterPolicyWrite] using hack
  | rxPoll => simpa [PhaseFacts, hm, afterPolicyWrite, afterBudgetLoad] using And.intro hack hcnt
  | rxChk | rxData =>
    simpa [PhaseFacts, hm, afterPolicyWrite, afterBudgetLoad, checkStates] using And.intro (And.intro hack hcnt) hflag
  | wrPoll => simpa [PhaseFacts, hm] using h.waitCounterInBudget hm
  | _ => simp [PhaseFacts, hm]

theorem inv_of_operationLatched_phaseFacts {s : State} (hop : OperationLatched s) (hphase : PhaseFacts s) : Inv s where
  latchesNameOperation i hi := (hop i hi).1
  frequencyNotZero freq ps hi := (hop _ hi).2.1 freq ps rfl
  noStopPendingAtStart hm := by simpa [PhaseFacts, hm] using hphase
  noResultWhileBusy hbusy := by
    obtain ⟨i, hi⟩ := Option.ne_none_iff_exists'.mp (mt inFlight_eq_none_iff.mp (by simpa [State.busy] using hbusy))
    exact (hop i hi).2.2
  flagSetWhenChecked hm := by
    cases h : s.fsm with
    | startChk | txaChk | txbChk | rxChk | rxData =>
      simp only [PhaseFacts, h] at hphase
      exact hphase.2
    | _ => simp [checkStates, h] at hm
  controlBitsOfPhase hm := by
    cases h : s.fsm with
    | startPoll | txaPoll | txbPoll => simpa [PhaseFacts, ControlBits, h] using hphase
    | startChk | txaChk | txbChk =>
      simp only [PhaseFacts, h] at hphase
      simpa [ControlBits] using hphase.1
    | _ => simp [afterControlWrite, h] at hm
  policyDriven hm := by
    cases h : s.fsm with
    | rxClr => simpa [PhaseFacts, h] using hphase
    | rxPoll =>
      simp only [PhaseFacts, h] at hphase
      exact hphase.1
    | rxChk | rxData =>
      simp only [PhaseFacts, h] at hphase
      obtain ⟨⟨hack, -⟩, -⟩ := hphase
      exact hack
    | _ => simp [afterPolicyWrite, h] at hm
  receiveCounterInBudget hm := by
    cases h : s.fsm with
    | rxPoll =>
      simp only [PhaseFacts, h] at hphase
      exact hphase.2
    | rxChk | rxData =>
      simp only [PhaseFacts, h] at hphase
      obtain ⟨⟨-, hcnt⟩, -⟩ := hphase
      exact hcnt
    | _ => simp [afterBudgetLoad, h] at hm
  waitCounterInBudget hm := by simpa [PhaseFacts, hm] using hphase

theorem inv_iff {s : State} : Inv s ↔ OperationLatched s ∧ PhaseFacts s :=
  ⟨fun h => ⟨h.operationLatched, h.phaseFacts⟩, fun h => inv_of_operationLatched_phaseFacts h.1 h.2⟩

/-- An idle block meets the invariant, whatever its registers hold. -/
theorem inv_of_idle {s : State} (h : s.fsm = .idle) : Inv s :=
  inv_iff.mpr ⟨fun i hi => by simp [inFlight_idle h] at hi, by simp [PhaseFacts, h]⟩

/-- Settles O48: reset leaves the block idle. -/
theorem resetMeetsInvariant : Obligations.ResetMeetsInvariant := inv_of_idle rfl

/-! ### The invariant at acceptance -/

theorem accepted_latchedWord (i : Instr) (s : State) : (s.accepted i).latchedWord = encode i := by
  rw [← fields_append (encode i)]
  cases i <;> rfl

theorem ofBit_bit (ack : AckPolicy) : AckPolicy.ofBit ack.bit = ack := by
  cases ack <;> rfl

/-- Acceptance puts the operation in flight: the latches give back its operands. -/
theorem accepted_inFlight (i : Instr) (s : State) : (s.accepted i).inFlight = some i := by
  cases i with
  | init | txaddr | txbyte | rxbyte | waitrdy =>
    simp [State.accepted, State.inFlight, firstState, Instr.imm, Instr.modifier, State.latchedFreq, State.latchedPs,
      State.latchedAddr, State.latchedDir, State.latchedByte, State.latchedAck, extractLsb'_zero_setWidth, ofBit_bit]
  | start | stop => rfl

theorem accepted_operationLatched {i : Instr} {s : State} (hacc : acceptable i s = true) :
    OperationLatched (s.accepted i) := by
  intro j hj
  rw [accepted_inFlight] at hj
  cases hj
  refine ⟨by rw [accepted_latchedWord, decode_encode], ?_, State.accepted_rvalid i s⟩
  rintro freq ps rfl
  exact bne_iff_ne.mp hacc

theorem accepted_phaseFacts {i : Instr} {s : State} (hacc : acceptable i s = true) : PhaseFacts (s.accepted i) := by
  cases i with
  | start => simpa [PhaseFacts, State.accepted, firstState, acceptable] using hacc
  | waitrdy budget =>
    have hbyte : (s.accepted (.waitrdy budget)).latchedByte = budget := by
      simp [State.accepted, State.latchedByte, Instr.imm, extractLsb'_zero_setWidth]
    simp only [PhaseFacts, State.accepted_fsm, firstState, hbyte]
    exact ⟨le_rfl, id⟩
  | init | txaddr | txbyte | rxbyte | stop => trivial

theorem accepted_inv {i : Instr} {s : State} (hacc : acceptable i s = true) : Inv (s.accepted i) :=
  inv_iff.mpr ⟨accepted_operationLatched hacc, accepted_phaseFacts hacc⟩

/-! ### The invariant through a running operation's turn -/

theorem microNext_operationLatched {s : State} (h : OperationLatched s) : OperationLatched s.microNext := by
  intro i hi
  obtain ⟨hfl, -, hrvalid⟩ | ⟨hidle, -⟩ | ⟨-, hidle, -⟩ := microNext_outcome s
  · rw [hfl] at hi
    rw [microNext_latchedWord, hrvalid]
    exact h i hi
  · simp [inFlight_idle hidle] at hi
  · simp [inFlight_idle hidle] at hi

theorem microNext_phaseFacts {s : State} (h : PhaseFacts s) : PhaseFacts s.microNext := by
  cases hm : s.fsm with
  | idle => simpa [State.microNext, hm] using h
  | initPs | initEn | startChk | txaData | txaChk | txbData | txbChk | rxData | stopCtl =>
    simp [PhaseFacts, State.microNext, State.checked, hm]
  | initBr =>
    simp only [State.microNext, hm]
    split <;> trivial
  | startCtl | txaCtl | txbCtl => simp [PhaseFacts, ControlBits, State.microNext, hm]
  | startPoll | txaPoll | txbPoll =>
    simp only [PhaseFacts, hm] at h
    cases hint : s.int <;> simpa [PhaseFacts, ControlBits, State.microNext, hm, hint] using h
  | rxEa =>
    simp only [PhaseFacts, State.microNext, hm]
    rfl
  | rxClr =>
    simp only [PhaseFacts, hm] at h
    simp only [PhaseFacts, State.microNext, hm]
    exact ⟨h, by decide⟩
  | rxPoll =>
    simp only [PhaseFacts, hm] at h
    obtain ⟨hack, hlow, hhigh⟩ := h
    simp only [State.microNext, hm]
    obtain ⟨n, hg⟩ | ⟨-, hint, hg⟩ | ⟨hcnt, hlast, hg⟩ := guarded_cases .rxPoll (State.goto .rxChk) s <;> rw [hg]
    · trivial
    · exact ⟨⟨hack, hlow, hhigh⟩, hint⟩
    · refine ⟨hack, ?_⟩
      change 1 ≤ (s.cnt - 1).toNat ∧ (s.cnt - 1).toNat ≤ 60
      bv_omega
  | rxChk =>
    simp only [PhaseFacts, hm] at h
    simp only [State.microNext, hm]
    split_ifs
    · exact h
    · trivial
  | wrPoll =>
    simp only [PhaseFacts, hm] at h
    obtain ⟨hle, -⟩ := h
    simp only [State.microNext, hm]
    obtain ⟨n, hg⟩ | ⟨-, -, hg⟩ | ⟨hcnt, hlast, hg⟩ := guarded_cases .wrPoll (State.complete s.cfg.ok) s <;> rw [hg]
    · trivial
    · trivial
    · refine ⟨?_, fun hzero => absurd hzero hlast⟩
      change (s.cnt - 1).toNat ≤ s.latchedByte.toNat
      bv_omega

theorem microNext_inv {s : State} (h : Inv s) : Inv s.microNext :=
  inv_iff.mpr ⟨microNext_operationLatched h.operationLatched, microNext_phaseFacts h.phaseFacts⟩

/-! ### The invariant through every move -/

theorem engineComplete_phaseFacts (status data : Byte) {s : State} (h : PhaseFacts s) :
    PhaseFacts (engineComplete status data s) := by
  unfold engineComplete
  split_ifs
  · cases hm : s.fsm with
    | startChk | txaChk | txbChk | rxChk | rxData =>
      simp only [PhaseFacts, hm] at h ⊢
      exact ⟨h.1, trivial⟩
    | _ => simp only [PhaseFacts, hm] at h ⊢ <;> exact h
  · exact h

theorem ControlBits.engineStopDone {sta : Bool} {s : State} (h : ControlBits sta s) :
    ControlBits sta (engineStopDone s) := by
  obtain ⟨hen, hea, -, hsta⟩ := h
  exact ⟨hen, hea, rfl, hsta⟩

theorem engineStopDone_phaseFacts {s : State} (h : PhaseFacts s) : PhaseFacts (engineStopDone s) := by
  cases hm : s.fsm with
  | startCtl => simp [PhaseFacts, hm]
  | startPoll | txaPoll | txbPoll =>
    simp only [PhaseFacts, hm, engineStopDone_fsm] at h ⊢
    exact h.engineStopDone
  | startChk | txaChk | txbChk =>
    simp only [PhaseFacts, hm, engineStopDone_fsm] at h ⊢
    exact ⟨h.1.engineStopDone, h.2⟩
  | _ => simp only [PhaseFacts, hm, engineStopDone_fsm] at h ⊢ <;> exact h

theorem Move.inv {s t : State} {u : Turn} (h : Move s u t) (hs : Inv s) : Inv t := by
  obtain ⟨hop, hphase⟩ := inv_iff.mp hs
  cases h with
  | wait => exact hs
  | accept i _ _ _ hacc => exact accepted_inv hacc
  | run => exact microNext_inv hs
  | complete status data =>
    refine inv_iff.mpr ⟨?_, engineComplete_phaseFacts status data hphase⟩
    unfold engineComplete
    split_ifs <;> exact hop
  | stopDone => exact inv_iff.mpr ⟨hop, engineStopDone_phaseFacts hphase⟩
  | reset => exact inv_of_idle rfl
  | offer w => exact inv_iff.mpr ⟨hop, hphase⟩
  | withdraw => exact inv_iff.mpr ⟨hop, hphase⟩

/-- Settles O47: taking the turn touches no field that the invariant speaks of, and every move keeps it. -/
theorem stepKeepsInvariant : Obligations.StepKeepsInvariant := by
  intro s t hs h
  obtain ⟨ts, n, hm⟩ := exists_move_of_step h
  obtain ⟨hop, hphase⟩ := inv_iff.mp hs
  exact hm.inv (inv_iff.mpr ⟨hop, hphase⟩)

end Sys2Proof.Machine
end

section
/-! PROOFS. The register space (spec/20_memory.md R62, R63, R66, R67; spec/10_state.md R24, R31) and the bus engine
(spec/20_memory.md R70 to R74). -/

namespace Sys2Proof.Machine

/-! ### The register space -/

/-- The four registers: an index and its width (spec/20_memory.md R60, R62). -/
def registers : List (Nat × Nat) := [(0, 16), (1, 8), (2, 2), (3, 8)]

theorem memRead_noRegister {addr n : Nat} (h : (addr, n) ∉ registers) (s : State) :
    memRead addr n s = .error (.badRegisterAccess addr n) := by
  unfold memRead
  split
  · simp [registers] at h
  · simp [registers] at h
  · simp [registers] at h
  · simp [registers] at h
  · rfl

theorem memWrite_noRegister {addr n : Nat} (h : (addr, n) ∉ registers) (v : BitVec n) (s : State) :
    memWrite addr n v s = .error (.badRegisterAccess addr n) := by
  unfold memWrite
  split
  · simp [registers] at h
  · simp [registers] at h
  · simp [registers] at h
  · simp [registers] at h
  · rfl

/-- Settles O16: the four reads by definition, the refusals from the list of registers. -/
theorem registerReadsGiveTheWholeRegister : Obligations.RegisterReadsGiveTheWholeRegister := fun s =>
  ⟨memRead_csr s, memRead_brr s, memRead_psr s, memRead_dr s, fun _ _ h => memRead_noRegister h s⟩

/-- A read sees only the register at its index: where two states agree on that one, they read the same. -/
theorem memRead_congr {s t : State} {addr : Nat} (n : Nat) (hcsr : addr = 0 → t.csr = s.csr) (hbr : addr = 1 → t.br = s.br)
    (hps : addr = 2 → t.ps = s.ps) (hdata : addr = 3 → t.data = s.data) : memRead addr n t = memRead addr n s := by
  unfold memRead
  split
  · rw [hcsr rfl]
  · rw [hbr rfl]
  · rw [hps rfl]
  · rw [hdata rfl]
  · rfl

/-- Everything a write that is not refused can do: it writes the register at its index (spec/20_memory.md R63). -/
theorem memWrite_cases {addr n : Nat} {v : BitVec n} {s t : State} (h : memWrite addr n v s = .ok t) :
    (addr = 0 ∧ ∃ w, t = s.writeCsr w) ∨ (addr = 1 ∧ ∃ b, t = { s with br := b }) ∨
      (addr = 2 ∧ ∃ p, t = { s with ps := p }) ∨ (addr = 3 ∧ ∃ d, t = { s with data := d }) := by
  unfold memWrite at h
  split at h
  · split_ifs at h
    cases h
    exact .inl ⟨rfl, _, rfl⟩
  · cases h
    exact .inr (.inl ⟨rfl, _, rfl⟩)
  · cases h
    exact .inr (.inr (.inl ⟨rfl, _, rfl⟩))
  · cases h
    exact .inr (.inr (.inr ⟨rfl, _, rfl⟩))
  · cases h

/-- A write leaves every register at another index as it reads (spec/20_memory.md R63). -/
theorem memRead_memWrite_of_ne {addr n : Nat} {v : BitVec n} {s t : State} (h : memWrite addr n v s = .ok t) {a : Nat}
    (ha : a ≠ addr) (m : Nat) : memRead a m t = memRead a m s := by
  obtain ⟨rfl, w, rfl⟩ | ⟨rfl, b, rfl⟩ | ⟨rfl, p, rfl⟩ | ⟨rfl, d, rfl⟩ := memWrite_cases h
  · exact memRead_congr m (absurd · ha) (fun _ => rfl) (fun _ => rfl) (fun _ => rfl)
  · exact memRead_congr m (fun _ => rfl) (absurd · ha) (fun _ => rfl) (fun _ => rfl)
  · exact memRead_congr m (fun _ => rfl) (fun _ => rfl) (absurd · ha) (fun _ => rfl)
  · exact memRead_congr m (fun _ => rfl) (fun _ => rfl) (fun _ => rfl) (absurd · ha)

theorem memWrite_csr_of_reserved {v : CsrWord} (h : csrReservedSet v = true) (s : State) :
    memWrite 0 16 v s = .error (.reservedBitWrite v) := by
  rw [memWrite_csr, if_pos h]

theorem memWrite_csr_of_not_reserved {v : CsrWord} (h : csrReservedSet v = false) (s : State) :
    memWrite 0 16 v s = .ok (s.writeCsr v) := by
  rw [memWrite_csr, h]
  rfl

/-- Bit 7 of a CSR write is write-1-to-clear (spec/10_state.md R24, R25). -/
theorem writeCsr_int_eq (v : CsrWord) (s : State) : (s.writeCsr v).int = (s.int && !v.getLsbD 7) := by
  simp only [State.writeCsr]
  cases v.getLsbD 7 <;> simp

/-- Settles O18, from what a write can do and what it leaves. -/
theorem registerWritesStoreAndKeepTheRest : Obligations.RegisterWritesStoreAndKeepTheRest := by
  intro s
  refine ⟨fun v => memWrite_brr v s, fun v => memWrite_psr v s, fun v => memWrite_dr v s, ?_, ?_, ?_, ?_⟩
  · intro v hv
    exact memWrite_csr_of_reserved (by simpa [csrReservedSet, or_assoc] using hv) s
  · intro v h3 h1 h0
    exact ⟨_, memWrite_csr_of_not_reserved (by simp only [csrReservedSet, h3, h1, h0]; rfl) s, rfl, rfl, rfl, rfl, rfl,
      writeCsr_int_eq v s⟩
  · intro addr n v t h a m ha
    exact memRead_memWrite_of_ne h ha m
  · intro addr n v h
    exact memWrite_noRegister h v s

/-! ### Control writes and field writes -/

/-- A control word is never refused: its reserved bits are 0. -/
theorem memWrite_controlWord (c : CtlSet) (s : State) : memWrite 0 16 c.word s = .ok { s with
    int := if c.flagClear then false else s.int, ea := c.ea, sta := c.sta, sto := c.sto, en := c.en } := by
  rw [memWrite_csr_of_not_reserved (csrReservedSet_word c), writeCsr_word]

/-- Settles O19: the effect for every subset by the law of the control word, and the three packed values. -/
theorem wholeControlWriteSetsEveryControlBit : Obligations.WholeControlWriteSetsEveryControlBit :=
  ⟨memWrite_controlWord, by decide, by decide, by decide⟩

/-- A field write is the write of a control word that carries the other bits (spec/20_memory.md R67). -/
theorem memWrite_fieldWord (f : FieldWrite) (s : State) : memWrite 0 16 (f.word s) s = .ok (s.fieldWrite f) := by
  cases f with
  | en b => exact memWrite_controlWord _ s
  | ea b => exact memWrite_controlWord _ s
  | flagClear => exact memWrite_controlWord _ s

/-- Settles O20: the effect by definition, the equivalence with a CSR write field by field. -/
theorem fieldWriteChangesOneField : Obligations.FieldWriteChangesOneField := fun s =>
  ⟨fun _ => rfl, fun _ => rfl, rfl, fun f => memWrite_fieldWord f s⟩

/-! ### The bus engine -/

theorem engineComplete_of_enabled (status data : Byte) {s : State} (hen : s.en = true) (hint : s.int = false) :
    engineComplete status data s = { s with status := status, data := data, int := true } := by
  simp [engineComplete, hen, hint]

theorem engineComplete_of_disabled (status data : Byte) {s : State} (h : s.en = false ∨ s.int = true) :
    engineComplete status data s = s := by
  obtain h | h := h <;> simp [engineComplete, h]

/-- Settles O13: the step makes the engine's move, which is enabled exactly when `EN` = 1 and `INT` = 0. -/
theorem engineStepsAsItsContractSays : Obligations.EngineStepsAsItsContractSays := by
  intro s ts
  refine ⟨fun status data h hen hint => ?_, fun status data h hoff => ?_, step_cons⟩
  · exact (step_cons h).trans (congrArg Host.Outcome.next (engineComplete_of_enabled status data hen hint))
  · exact (step_cons h).trans (congrArg Host.Outcome.next (engineComplete_of_disabled status data hoff))

end Sys2Proof.Machine
end

section
/-! PROOFS. What the block's turn keeps of `STATUS` and `DATA`, and that it never reads `BR` or `PS` (spec/20_memory.md R61, R72). -/

namespace Sys2Proof.Machine

/-! ### `STATUS` and `DATA` -/

/-- No turn of the block writes `STATUS` (spec/10_state.md R30). -/
theorem microNext_status (s : State) : s.microNext.status = s.status := by
  cases h : s.fsm with
  | initBr => simp only [State.microNext, h]; split <;> rfl
  | rxPoll | wrPoll => simp only [State.microNext, State.guarded, h]; split_ifs <;> rfl
  | rxChk => simp only [State.microNext, h]; split_ifs <;> rfl
  | _ => simp [State.microNext, State.checked, h]

/-- Only the data steps of TXADDR and TXBYTE write `DR` (spec/20_memory.md R61). -/
theorem microNext_data {s : State} (hm : s.fsm ∉ [.txaData, .txbData]) : s.microNext.data = s.data := by
  cases h : s.fsm with
  | txaData | txbData => simp [h] at hm
  | initBr => simp only [State.microNext, h]; split <;> rfl
  | rxPoll | wrPoll => simp only [State.microNext, State.guarded, h]; split_ifs <;> rfl
  | rxChk => simp only [State.microNext, h]; split_ifs <;> rfl
  | _ => simp [State.microNext, State.checked, h]

@[simp] theorem State.accepted_status (i : Instr) (s : State) : (s.accepted i).status = s.status := by
  cases i <;> rfl

@[simp] theorem State.accepted_data (i : Instr) (s : State) : (s.accepted i).data = s.data := by
  cases i <;> rfl

/-- While `INT` = 1 no move but reset writes `STATUS`, and none but a data step of the block writes `DR`: the engine's
*complete* is not enabled (spec/20_memory.md R72). -/
theorem Move.stable_of_int {s t : State} {u : Turn} (h : Move s u t) (hint : s.int = true) (hreset : u ≠ .reset) :
    t.status = s.status ∧ (t.data = s.data ∨ u = .block ∧ s.fsm ∈ [.txaData, .txbData]) := by
  cases h with
  | wait => exact ⟨rfl, .inl rfl⟩
  | accept i => exact ⟨State.accepted_status i s, .inl (State.accepted_data i s)⟩
  | run =>
    refine ⟨microNext_status s, ?_⟩
    by_cases hm : s.fsm ∈ [.txaData, .txbData]
    · exact .inr ⟨rfl, hm⟩
    · exact .inl (microNext_data hm)
  | complete status data =>
    rw [engineComplete_of_disabled status data (.inr hint)]
    exact ⟨rfl, .inl rfl⟩
  | stopDone | offer | withdraw => exact ⟨rfl, .inl rfl⟩
  | reset => exact absurd rfl hreset

/-- Settles O52, from what each move keeps while `INT` = 1. -/
theorem statusIsStableWhileReady : Obligations.StatusIsStableWhileReady := by
  intro s t h hint hreset
  obtain ⟨ts, n, hm⟩ := exists_move_of_step h
  obtain ⟨hstatus, hdata⟩ := hm.stable_of_int hint hreset
  exact ⟨hstatus, hdata.resolve_left⟩

/-! ### The divider registers -/

/-- A turn of a running operation neither reads nor writes `BR` and `PS`, the two steps of INIT apart that write them. -/
theorem microNext_divider (b : Byte) (p : BitVec 2) {s : State} (hm : s.fsm ∉ [.initPs, .initBr]) :
    State.microNext { s with br := b, ps := p } = { s.microNext with br := b, ps := p } := by
  cases h : s.fsm with
  | initPs | initBr => simp [h] at hm
  | rxPoll | wrPoll =>
    simp only [State.microNext, h, State.guarded]
    split_ifs <;> rfl
  | rxChk =>
    simp only [State.microNext, h]
    split_ifs <;> rfl
  | _ => simp only [State.microNext, h] <;> rfl

theorem accepted_divider (i : Instr) (b : Byte) (p : BitVec 2) (s : State) :
    State.accepted i { s with br := b, ps := p } = { s.accepted i with br := b, ps := p } := by
  cases i <;> rfl

/-- In `IDLE` an acceptable operation is accepted. -/
theorem exec_of_acceptable {i : Instr} {s : State} (hidle : s.fsm = .idle) (hacc : acceptable i s = true) :
    exec i s = .next (s.accepted i) := by
  obtain ⟨t, hnext⟩ | ⟨r, -, -, hbroken⟩ := exec_next_or_refused i s
  · obtain ⟨-, rfl⟩ := acceptable_and_accepted_of_exec hidle hnext
    exact hnext
  · simp [hbroken.not_acceptable] at hacc

/-- What the block can do in its turn it does: the moves of the block determine its step. -/
theorem Move.blockStep_eq {s t : State} (h : Move s .block t) : blockStep s = .next t := by
  cases h with
  | wait hidle hnone => exact blockStep_waits hidle hnone
  | accept i hidle hoffer hdec hacc =>
    rw [blockStep_accepts hidle hoffer hdec, exec_of_acceptable hidle hacc]
  | run hbusy => exact blockStep_busy hbusy

/-- A move of the block is the same move whatever `BR` and `PS` hold. -/
theorem Move.block_divider (b : Byte) (p : BitVec 2) {s t : State} (h : Move s .block t)
    (hm : s.fsm ∉ [.initPs, .initBr]) : Move { s with br := b, ps := p } .block { t with br := b, ps := p } := by
  cases h with
  | wait hidle hnone => exact .wait hidle hnone
  | accept i hidle hoffer hdec hacc =>
    rw [← accepted_divider]
    exact .accept i hidle hoffer hdec (by cases i <;> exact hacc)
  | run hbusy =>
    rw [← microNext_divider b p hm]
    exact .run hbusy

/-- Settles O55: the block's turn is one of its moves, and none of them reads `BR` or `PS`. -/
theorem blockNeverReadsTheDivider : Obligations.BlockNeverReadsTheDivider := by
  intro s t ts b p h hm hstep
  have hmove : Move { s with turns := ts } .block t := move_of_blockStep ((step_cons h).symm.trans hstep)
  exact (step_cons (s := { s with br := b, ps := p }) h).trans (hmove.block_divider b p hm).blockStep_eq

end Sys2Proof.Machine
end

section
/-! PROOFS. Frames: what one step of each operation leaves unchanged, in every state (spec/20_memory.md R61). -/

namespace Sys2Proof.Machine

/-! ### INIT -/

/-- Everything a step of INIT can do (spec/40_init.md R120): acceptance, the two register writes, the enable, or nothing in a
micro-state of another operation. -/
inductive InitStep (freq : BitVec 32) (ps : BitVec 2) (s : State) : State → Prop
  | accept (hm : s.fsm = .idle) : InitStep freq ps s (s.accept (.init freq ps))
  | writePrescaler (hm : s.fsm = .initPs) : InitStep freq ps s (State.goto .initBr { s with ps := ps })
  | writeDivisor (b : Byte) (n : Nat) (hm : s.fsm = .initBr) :
    InitStep freq ps s (State.goto .initEn { s with br := b, draws := n })
  | enable (hm : s.fsm = .initEn) : InitStep freq ps s (s.fieldWrite (.en true)).completeVoid
  | held : InitStep freq ps s s

theorem initStep_of_execInit {freq : BitVec 32} {ps : BitVec 2} {s t : State} (h : execInit freq ps s = .next t) :
    InitStep freq ps s t := by
  unfold execInit at h
  split at h
  next hm =>
    split_ifs at h
    cases h
    exact .accept hm
  next hm =>
    cases h
    exact .writePrescaler hm
  next hm =>
    rw [initWriteDivisor_eq] at h
    cases h
    split
    · exact .writeDivisor _ s.draws hm
    · exact .writeDivisor _ _ hm
  next hm =>
    cases h
    exact .enable hm
  next =>
    cases h
    exact .held

/-- Settles O32, by the cases of a step of INIT. -/
theorem initFrame : Obligations.InitFrame := by
  intro s t freq ps h
  cases initStep_of_execInit h with
  | accept hm => simp [hm, State.csr]
  | writePrescaler hm => simp [hm, State.csr]
  | writeDivisor b n hm => simp [hm, State.csr]
  | enable hm => simp [hm]
  | held => simp

/-! ### START, TXADDR and TXBYTE -/

/-- Everything a step of the transmitting operation `i` can do (spec/41_start.md R140, spec/42_address.md R150,
spec/43_transmit_byte.md R160). -/
inductive TransmitStep (i : Instr) (s : State) : State → Prop
  | accept (hm : s.fsm = .idle) : TransmitStep i s (s.accept i)
  | writeData (v : Byte) (next : MicroState) (hm : s.fsm ∈ [.txaData, .txbData]) (hi : i ≠ .start) :
    TransmitStep i s (State.goto next { s with data := v })
  | writeControl (sta : Bool) (next : MicroState) (hm : s.fsm ∈ [.startCtl, .txaCtl, .txbCtl]) :
    TransmitStep i s (State.goto next { s with int := false, ea := false, sta := sta, sto := false, en := true })
  | poll (next : MicroState) (hm : s.fsm ∈ [.startPoll, .txaPoll, .txbPoll]) : TransmitStep i s (s.goto next)
  | check (success : Byte → Bool) (hm : s.fsm ∈ [.startChk, .txaChk, .txbChk]) : TransmitStep i s (s.checked success)
  | held : TransmitStep i s s

theorem transmitStep_of_execStart {s t : State} (h : execStart s = .next t) : TransmitStep .start s t := by
  unfold execStart at h
  split at h
  next hm =>
    split_ifs at h
    cases h
    exact .accept hm
  next hm =>
    rw [ctlWriteThen_start] at h
    cases h
    exact .writeControl true .startPoll (by simp [hm])
  next hm =>
    rw [pollInt_eq] at h
    cases h
    exact .poll _ (by simp [hm])
  next hm =>
    rw [checkStatus_eq] at h
    cases h
    exact .check (startSuccess s.cfg) (by simp [hm])
  next =>
    cases h
    exact .held

theorem transmitStep_of_execTxaddr {addr : BitVec 7} {dir : BitVec 1} {s t : State}
    (h : execTxaddr addr dir s = .next t) : TransmitStep (.txaddr addr dir) s t := by
  unfold execTxaddr at h
  split at h
  next hm =>
    cases h
    exact .accept hm
  next hm =>
    cases h
    exact .writeData _ .txaCtl (by simp [hm]) (by simp)
  next hm =>
    rw [ctlWriteThen_transmit] at h
    cases h
    exact .writeControl false .txaPoll (by simp [hm])
  next hm =>
    rw [pollInt_eq] at h
    cases h
    exact .poll _ (by simp [hm])
  next hm =>
    rw [checkStatus_eq] at h
    cases h
    exact .check (fun status => status == slaAck s.cfg dir) (by simp [hm])
  next =>
    cases h
    exact .held

theorem transmitStep_of_execTxbyte {byte : Byte} {s t : State} (h : execTxbyte byte s = .next t) :
    TransmitStep (.txbyte byte) s t := by
  unfold execTxbyte at h
  split at h
  next hm =>
    cases h
    exact .accept hm
  next hm =>
    cases h
    exact .writeData _ .txbCtl (by simp [hm]) (by simp)
  next hm =>
    rw [ctlWriteThen_transmit] at h
    cases h
    exact .writeControl false .txbPoll (by simp [hm])
  next hm =>
    rw [pollInt_eq] at h
    cases h
    exact .poll _ (by simp [hm])
  next hm =>
    rw [checkStatus_eq] at h
    cases h
    exact .check (fun status => status == s.cfg.stMtDataAck) (by simp [hm])
  next =>
    cases h
    exact .held

/-- Settles O33, by the cases of a transmitting step. -/
theorem transmitFrame : Obligations.TransmitFrame := by
  intro s t i hi h
  have hstep : TransmitStep i s t := by
    obtain rfl | ⟨addr, dir, rfl⟩ | ⟨byte, rfl⟩ := hi
    · exact transmitStep_of_execStart h
    · exact transmitStep_of_execTxaddr h
    · exact transmitStep_of_execTxbyte h
  cases hstep with
  | accept hm => simp [hm, State.csr]
  | writeData v next hm hstart => simp [hm, hstart, State.csr]
  | writeControl sta next hm => simp [hm]
  | poll next => simp [State.csr]
  | check success hm => simp [State.checked, hm, State.csr]
  | held => simp

/-! ### RXBYTE -/

/-- Everything a step of RXBYTE can do (spec/44_receive_and_guard.md R170). -/
inductive ReceiveStep (ack : AckPolicy) (s : State) : State → Prop
  | accept (hm : s.fsm = .idle) : ReceiveStep ack s (s.accept (.rxbyte ack))
  | writePolicy (hm : s.fsm = .rxEa) : ReceiveStep ack s ((s.fieldWrite (.ea ack.bit)).goto .rxClr)
  | clearFlag (hm : s.fsm = .rxClr) :
    ReceiveStep ack s { (s.fieldWrite .flagClear) with cnt := rxBudget, fsm := .rxPoll }
  | guard (hm : s.fsm = .rxPoll) : ReceiveStep ack s (s.guarded .rxPoll (State.goto .rxChk))
  | accepted (hm : s.fsm = .rxChk) : ReceiveStep ack s (State.goto .rxData { s with tmp := s.status })
  | rejected (hm : s.fsm = .rxChk) :
    ReceiveStep ack s (State.complete s.cfg.errTransmission { s with tmp := s.status })
  | deliver (hm : s.fsm = .rxData) : ReceiveStep ack s (s.complete s.data)
  | held : ReceiveStep ack s s

theorem receiveStep_of_execRxbyte {ack : AckPolicy} {s t : State} (h : execRxbyte ack s = .next t) :
    ReceiveStep ack s t := by
  unfold execRxbyte at h
  split at h
  next hm =>
    cases h
    exact .accept hm
  next hm =>
    cases h
    exact .writePolicy hm
  next hm =>
    cases h
    exact .clearFlag hm
  next hm =>
    rw [guardIteration_eq] at h
    cases h
    exact .guard hm
  next hm =>
    rw [receiveCheck_eq] at h
    cases h
    split_ifs
    · exact .accepted hm
    · exact .rejected hm
  next hm =>
    cases h
    exact .deliver hm
  next =>
    cases h
    exact .held

/-- Settles O34, by the cases of a step of RXBYTE. -/
theorem receiveFrame : Obligations.ReceiveFrame := by
  intro s t ack h
  cases receiveStep_of_execRxbyte h with
  | accept hm | accepted hm | rejected hm | deliver hm => simp [hm, State.csr]
  | writePolicy hm | clearFlag hm => simp [hm]
  | guard hm =>
    obtain ⟨n, hg⟩ | ⟨-, -, hg⟩ | ⟨-, -, hg⟩ := guarded_cases .rxPoll (State.goto .rxChk) s
    · simp [hg, hm, State.csr]
    · simp [hg, hm, State.csr]
    · simp [hg, hm, State.csr]
  | held => simp

/-! ### WAITRDY and STOP -/

/-- Everything a step of STOP can do (spec/45_stop.md R190). -/
theorem execStop_cases {s t : State} (h : execStop s = .next t) :
    (s.fsm = .idle ∧ t = s.accept .stop) ∨
      (s.fsm = .stopCtl ∧
        t = State.completeVoid { s with int := false, ea := false, sta := false, sto := true, en := true }) ∨
      t = s := by
  unfold execStop at h
  split at h
  next hm =>
    cases h
    exact .inl ⟨hm, rfl⟩
  next hm =>
    rw [ctlWriteThen_stop] at h
    cases h
    exact .inr (.inl ⟨hm, rfl⟩)
  next =>
    cases h
    exact .inr (.inr rfl)

/-- Everything a step of WAITRDY can do (spec/44_receive_and_guard.md R178). -/
theorem execWaitrdy_cases {budget : Byte} {s t : State} (h : execWaitrdy budget s = .next t) :
    (s.fsm = .idle ∧ t = { (s.accept (.waitrdy budget)) with cnt := budget }) ∨
      (s.fsm = .wrPoll ∧ t = s.guarded .wrPoll (State.complete s.cfg.ok)) ∨ t = s := by
  unfold execWaitrdy at h
  split at h
  next hm =>
    cases h
    exact .inl ⟨hm, rfl⟩
  next hm =>
    rw [guardIteration_eq] at h
    cases h
    exact .inr (.inl ⟨hm, rfl⟩)
  next =>
    cases h
    exact .inr (.inr rfl)

/-- Settles O35, by the cases of a step of STOP and of WAITRDY. -/
theorem waitAndStopFrame : Obligations.WaitAndStopFrame := by
  intro s t i hi h
  obtain rfl | ⟨budget, rfl⟩ := hi
  · obtain ⟨hm, rfl⟩ | ⟨hm, rfl⟩ | rfl := execStop_cases h
    · simp [hm, State.csr]
    · simp [hm]
    · simp
  · obtain ⟨hm, rfl⟩ | ⟨hm, rfl⟩ | rfl := execWaitrdy_cases h
    · simp [hm, State.csr]
    · obtain ⟨n, hg⟩ | ⟨-, -, hg⟩ | ⟨-, -, hg⟩ := guarded_cases .wrPoll (State.complete s.cfg.ok) s
      · simp [hg, hm, State.csr]
      · simp [hg, hm, State.csr]
      · simp [hg, hm, State.csr]
    · simp

end Sys2Proof.Machine
end

section
/-! PROOFS. The bus operations under the acknowledging peripheral (spec/20_memory.md R77). -/

namespace Sys2Proof.Machine

/-! ### One round of the block and the peripheral -/

theorem microNext_turns (ts : List Turn) (s : State) :
    State.microNext { s with turns := ts } = { s.microNext with turns := ts } := by
  cases h : s.fsm with
  | initBr =>
    simp only [State.microNext, h, State.latchedFreq, State.latchedPs]
    split <;> rfl
  | rxPoll | wrPoll =>
    simp only [State.microNext, h, State.guarded]
    split_ifs <;> rfl
  | rxChk =>
    simp only [State.microNext, h]
    split_ifs <;> rfl
  | _ => simp only [State.microNext, h] <;> rfl

/-- In a running operation's turn the block takes only its own move off the schedule. -/
theorem step_block_cons {s : State} (hbusy : s.fsm ≠ .idle) (ts : List Turn) :
    step { s with turns := .block :: ts } = .next { s.microNext with turns := ts } := by
  rw [← microNext_turns]
  exact blockStep_busy (s := { s with turns := ts }) hbusy

/-- The micro-states whose turn the peripheral answers: the control writes and RXBYTE's flag-clear (spec/20_memory.md R77). -/
def answeredStates : List MicroState := [.startCtl, .txaCtl, .txbCtl, .rxClr, .stopCtl]

theorem answer_of_not_answered (p : Peripheral) {s : State} (h : s.fsm ∉ answeredStates) : p.answer s = ([], p) := by
  cases hm : s.fsm with
  | startCtl | txaCtl | txbCtl | rxClr | stopCtl => simp [answeredStates, hm] at h
  | _ => simp [Peripheral.answer, hm]

/-- A round without an answer is the block's turn alone. -/
theorem ackRun_quiet (n : Nat) (p : Peripheral) {s : State} (hbusy : s.fsm ≠ .idle) (hquiet : s.fsm ∉ answeredStates) :
    ackRun (n + 1) p s = ackRun n p s.microNext := by
  have hturns : { s.microNext with turns := s.turns } = s.microNext := (microNext_turns s.turns s).symm
  have hrun : run 1 { s with turns := .block :: s.turns } = .next s.microNext := by
    rw [run_succ_of_next 0 (step_block_cons hbusy s.turns), hturns, run_zero]
  simp [ackRun, answer_of_not_answered p hquiet, hrun]

/-- A round with one answer is the block's turn and then the answer's move. -/
theorem ackRun_answered (n : Nat) {p q : Peripheral} {s t : State} {move : Turn} (hbusy : s.fsm ≠ .idle)
    (hanswer : p.answer s = ([move], q)) (hmove : turnStep move s.microNext = .next t) :
    ackRun (n + 1) p s = ackRun n q t := by
  have hturns : { s.microNext with turns := s.turns } = s.microNext := (microNext_turns s.turns s).symm
  have hrun : run 2 { s with turns := .block :: move :: s.turns } = .next t := by
    rw [run_succ_of_next 1 (step_block_cons hbusy _), run_succ_of_next 0 ((step_cons rfl).trans ?_), run_zero]
    rw [hturns, hmove]
  simp [ackRun, hanswer, hrun]

/-! ### START, TXADDR and TXBYTE -/

/-- A poll state of a transmitting operation once the peripheral has acknowledged: the flag is set, with a success status. -/
def Acknowledged (s : State) : Prop :=
  s.int = true ∧
    match s.fsm with
    | .startPoll => startSuccess s.cfg s.status = true
    | .txaPoll => s.status = slaAck s.cfg s.latchedDir
    | .txbPoll => s.status = s.cfg.stMtDataAck
    | _ => False

/-- A state in which a transmitting operation has completed from `s` with `OK`. -/
def EndsWithOk (s t : State) : Prop := t.fsm = .idle ∧ t.res = s.cfg.ok ∧ t.rvalid = true ∧ t.data = s.data

/-- A poll that sees the flag and a check that finds success end the operation with `OK`. -/
theorem ackRun_poll_check (p : Peripheral) {s : State} {chk : MicroState} {success : Byte → Bool}
    (hm : s.fsm ∈ [.startPoll, .txaPoll, .txbPoll]) (hc : chk ∈ [.startChk, .txaChk, .txbChk])
    (hpoll : s.microNext = s.goto chk) (hcheck : (s.goto chk).microNext = (s.goto chk).checked success)
    (hsuccess : success s.status = true) : ∃ t, ackRun 2 p s = .next t ∧ EndsWithOk s t := by
  have hpollState : ∀ m ∈ [MicroState.startPoll, .txaPoll, .txbPoll], m ≠ .idle ∧ m ∉ answeredStates := by decide
  have hcheckState : ∀ m ∈ [MicroState.startChk, .txaChk, .txbChk], m ≠ .idle ∧ m ∉ answeredStates := by decide
  obtain ⟨hbusy, hquiet⟩ := hpollState _ hm
  obtain ⟨hbusy', hquiet'⟩ := hcheckState _ hc
  refine ⟨(s.goto chk).checked success, ?_, ?_⟩
  · rw [ackRun_quiet 1 p hbusy hquiet, hpoll, ackRun_quiet 0 p hbusy' hquiet', hcheck, ackRun]
  · simp [EndsWithOk, State.checked, hsuccess]

theorem ackRun_acknowledged (p : Peripheral) {s : State} (h : Acknowledged s) :
    ∃ t, ackRun 2 p s = .next t ∧ EndsWithOk s t := by
  obtain ⟨hint, hstatus⟩ := h
  cases hm : s.fsm with
  | startPoll =>
    simp only [hm] at hstatus
    exact ackRun_poll_check p (chk := .startChk) (by simp [hm]) (by simp) (by simp [State.microNext, hm, hint]) rfl hstatus
  | txaPoll =>
    simp only [hm] at hstatus
    exact ackRun_poll_check p (chk := .txaChk) (success := fun status => status == slaAck s.cfg s.latchedDir)
      (by simp [hm]) (by simp) (by simp [State.microNext, hm, hint]) rfl (by simpa using hstatus)
  | txbPoll =>
    simp only [hm] at hstatus
    exact ackRun_poll_check p (chk := .txbChk) (success := fun status => status == s.cfg.stMtDataAck)
      (by simp [hm]) (by simp) (by simp [State.microNext, hm, hint]) rfl (by simpa using hstatus)
  | _ => simp [hm] at hstatus

/-- A control write that the peripheral answers with a success status makes the operation end with `OK`. -/
theorem ackRun_control {p q : Peripheral} {s : State} {status : Byte} (hm : s.fsm ∈ [.startCtl, .txaCtl, .txbCtl])
    (hanswer : p.answer s = ([.complete status s.data], q))
    (hack : Acknowledged (engineComplete status s.data s.microNext)) :
    ∃ t, ackRun 3 p s = .next t ∧ EndsWithOk s t := by
  have hcontrolState : ∀ m ∈ [MicroState.startCtl, .txaCtl, .txbCtl], m ≠ .idle ∧ m ∉ [.txaData, .txbData] := by decide
  obtain ⟨hbusy, hnoData⟩ := hcontrolState _ hm
  obtain ⟨t, hrun, hidle, hres, hvalid, hdata⟩ := ackRun_acknowledged q hack
  refine ⟨t, by rw [ackRun_answered 2 hbusy hanswer rfl, hrun], hidle, ?_, hvalid, ?_⟩
  · rw [hres, engineComplete_cfg, (microNext_keeps s).1]
  · rw [hdata, engineComplete]
    split_ifs
    · rfl
    · exact microNext_data hnoData

theorem answer_startCtl (p : Peripheral) {s : State} (hm : s.fsm = .startCtl) :
    p.answer s = ([.complete (if p.transactionOpen then s.cfg.stRepStart else s.cfg.stStart) s.data],
      { p with transactionOpen := true }) := by
  simp [Peripheral.answer, hm]

theorem answer_txaCtl (p : Peripheral) {s : State} (hm : s.fsm = .txaCtl) :
    p.answer s = ([.complete (slaAck s.cfg (s.data.extractLsb' 0 1)) s.data], p) := by
  simp [Peripheral.answer, hm]

theorem answer_txbCtl (p : Peripheral) {s : State} (hm : s.fsm = .txbCtl) :
    p.answer s = ([.complete s.cfg.stMtDataAck s.data], p) := by
  simp [Peripheral.answer, hm]

theorem ackRun_startCtl (p : Peripheral) {s : State} (hm : s.fsm = .startCtl) :
    ∃ t, ackRun 3 p s = .next t ∧ EndsWithOk s t := by
  refine ackRun_control (by simp [hm]) (answer_startCtl p hm) ?_
  cases p.transactionOpen <;> simp [Acknowledged, engineComplete, State.microNext, hm, startSuccess]

/-- The peripheral takes the direction from `DR`, the check from the latches: TXADDR ends with `OK` where they agree. -/
theorem ackRun_txaCtl (p : Peripheral) {s : State} (hm : s.fsm = .txaCtl)
    (hdir : s.data.extractLsb' 0 1 = s.latchedDir) : ∃ t, ackRun 3 p s = .next t ∧ EndsWithOk s t := by
  refine ackRun_control (by simp [hm]) (answer_txaCtl p hm) ?_
  simp [Acknowledged, engineComplete, State.microNext, hm, hdir, State.latchedDir]

theorem ackRun_txbCtl (p : Peripheral) {s : State} (hm : s.fsm = .txbCtl) :
    ∃ t, ackRun 3 p s = .next t ∧ EndsWithOk s t := by
  refine ackRun_control (by simp [hm]) (answer_txbCtl p hm) ?_
  simp [Acknowledged, engineComplete, State.microNext, hm]

/-- The address byte is the address with the direction as its lowest bit (spec/42_address.md R151). -/
theorem slaByte_eq_append (addr : BitVec 7) (dir : BitVec 1) : slaByte addr dir = addr ++ dir := by
  apply BitVec.eq_of_getLsbD_eq
  intro k hk
  simp only [slaByte, BitVec.getLsbD_append]
  interval_cases k <;> simp

theorem direction_of_slaByte (addr : BitVec 7) (dir : BitVec 1) : (slaByte addr dir).extractLsb' 0 1 = dir := by
  rw [slaByte_eq_append, BitVec.extractLsb'_append_eq_right]

theorem ackRun_txaData (p : Peripheral) {s : State} (hm : s.fsm = .txaData) :
    ∃ t, ackRun 4 p s = .next t ∧ EndsWithOk s.microNext t := by
  have hnext : s.microNext = State.goto .txaCtl { s with data := slaByte s.latchedAddr s.latchedDir } := by
    simp [State.microNext, hm]
  rw [ackRun_quiet 3 p (by simp [hm]) (by simp [answeredStates, hm]), hnext]
  exact ackRun_txaCtl p rfl (direction_of_slaByte _ _)

theorem ackRun_txbData (p : Peripheral) {s : State} (hm : s.fsm = .txbData) :
    ∃ t, ackRun 4 p s = .next t ∧ EndsWithOk s.microNext t := by
  rw [ackRun_quiet 3 p (by simp [hm]) (by simp [answeredStates, hm])]
  exact ackRun_txbCtl p (by simp [State.microNext, hm])

/-! ### RXBYTE and STOP -/

/-- A state in which RXBYTE has completed with the byte `b`. -/
def EndsWithByte (b : Byte) (t : State) : Prop := t.fsm = .idle ∧ t.res = b ∧ t.rvalid = true

/-- A guard that sees the flag before it times out, and a check that accepts, end RXBYTE with the byte in `DR`. -/
theorem ackRun_rxPoll (p : Peripheral) {s : State} (hm : s.fsm = .rxPoll) (hcnt : s.cnt ≠ 0) (hint : s.int = true)
    (haccept : (rxHit s.cfg s.status ^^ s.cfg.rxCheckInverted) = true) :
    ∃ t, ackRun 3 p s = .next t ∧ EndsWithByte s.data t := by
  have hready : s.microNext = s.goto .rxChk := by
    simp only [State.microNext, State.guarded, hm, if_neg hcnt, hint, if_true]
  have hcheck : (s.goto .rxChk).microNext = State.goto .rxData { s with tmp := s.status } := if_pos haccept
  rw [ackRun_quiet 2 p (by simp [hm]) (by simp [answeredStates, hm]), hready,
    ackRun_quiet 1 p (by simp) (by simp [answeredStates]), hcheck,
    ackRun_quiet 0 p (by simp) (by simp [answeredStates]), ackRun]
  exact ⟨_, rfl, rfl, rfl, rfl⟩

theorem answer_rxClr {p : Peripheral} {s : State} {b : Byte} {bs : List Byte} (hm : s.fsm = .rxClr)
    (hscript : p.script = b :: bs) (hen : s.en = true) :
    p.answer s = ([.complete (if s.ea then s.cfg.stMrDataAck else s.cfg.stMrDataNack) b], { p with script := bs }) := by
  simp [Peripheral.answer, hm, hscript, hen]

/-- Either receive code is a hit (spec/44_receive_and_guard.md R175). -/
theorem rxHit_receiveCode (c : Config) (ack : Bool) : rxHit c (if ack then c.stMrDataAck else c.stMrDataNack) = true := by
  cases ack <;> simp [rxHit]

theorem ackRun_rxClr {p : Peripheral} {s : State} {b : Byte} {bs : List Byte} (hm : s.fsm = .rxClr)
    (hscript : p.script = b :: bs) (hen : s.en = true) (hpolarity : s.cfg.rxCheckInverted = false) :
    ∃ t, ackRun 4 p s = .next t ∧ EndsWithByte b t := by
  have hclear : s.microNext = { (s.fieldWrite .flagClear) with cnt := rxBudget, fsm := .rxPoll } := by
    simp [State.microNext, hm]
  rw [ackRun_answered 3 (by simp [hm]) (answer_rxClr hm hscript hen) rfl, hclear,
    engineComplete_of_enabled _ _ (by simpa using hen) (by simp)]
  refine ackRun_rxPoll _ rfl (by simp [rxBudget]) rfl ?_
  simp [rxHit_receiveCode, hpolarity]

theorem ackRun_rxEa {p : Peripheral} {s : State} {b : Byte} {bs : List Byte} (hm : s.fsm = .rxEa)
    (hscript : p.script = b :: bs) (hen : s.en = true) (hpolarity : s.cfg.rxCheckInverted = false) :
    ∃ t, ackRun 5 p s = .next t ∧ EndsWithByte b t := by
  have hpolicy : s.microNext = (s.fieldWrite (.ea s.latchedAck.bit)).goto .rxClr := by simp [State.microNext, hm]
  rw [ackRun_quiet 4 p (by simp [hm]) (by simp [answeredStates, hm]), hpolicy]
  exact ackRun_rxClr rfl hscript hen hpolarity

theorem answer_stopCtl (p : Peripheral) {s : State} (hm : s.fsm = .stopCtl) :
    p.answer s = ([.stopDone], { p with transactionOpen := false }) := by
  simp [Peripheral.answer, hm]

theorem ackRun_stopCtl (p : Peripheral) {s : State} (hm : s.fsm = .stopCtl) :
    ∃ t, ackRun 1 p s = .next t ∧ t.fsm = .idle ∧ t.sto = false ∧ t.rvalid = s.rvalid := by
  refine ⟨engineStopDone s.microNext, ?_, by simp [State.microNext, hm]⟩
  rw [ackRun_answered 0 (by simp [hm]) (answer_stopCtl p hm) rfl, ackRun]

/-- TXADDR's first turn writes the address byte of the operands in flight (spec/42_address.md R151). -/
theorem microNext_data_txaData {addr : BitVec 7} {dir : BitVec 1} {s : State} (hm : s.fsm = .txaData)
    (hi : s.inFlight = some (.txaddr addr dir)) : s.microNext.data = addr ++ dir := by
  rw [inFlight_txaddr (by simp [hm])] at hi
  cases hi
  simp [State.microNext, hm, slaByte_eq_append]

/-- TXBYTE's first turn writes the operand in flight (spec/43_transmit_byte.md R161). -/
theorem microNext_data_txbData {byte : Byte} {s : State} (hm : s.fsm = .txbData)
    (hi : s.inFlight = some (.txbyte byte)) : s.microNext.data = byte := by
  rw [inFlight_txbyte (by simp [hm])] at hi
  cases hi
  simp [State.microNext, hm]

/-- Settles O46, operation by operation. -/
theorem acknowledgedOperationsSucceed : Obligations.AcknowledgedOperationsSucceed := by
  intro s p
  refine ⟨fun hm => ?_, fun addr dir hi hm => ?_, fun byte hi hm => ?_, ?_, ackRun_stopCtl p⟩
  · obtain ⟨t, hrun, hidle, hres, hvalid, -⟩ := ackRun_startCtl p hm
    exact ⟨t, hrun, hidle, hres, hvalid⟩
  · obtain ⟨t, hrun, hidle, hres, hvalid, hdata⟩ := ackRun_txaData p hm
    exact ⟨t, hrun, hidle, by rw [hres, (microNext_keeps s).1], hvalid, by rw [hdata, microNext_data_txaData hm hi]⟩
  · obtain ⟨t, hrun, hidle, hres, hvalid, hdata⟩ := ackRun_txbData p hm
    exact ⟨t, hrun, hidle, by rw [hres, (microNext_keeps s).1], hvalid, by rw [hdata, microNext_data_txbData hm hi]⟩
  · intro b bs hm hscript hen hpolarity
    exact ackRun_rxEa hm hscript hen hpolarity

end Sys2Proof.Machine
end

section
/-! PROOFS. The decoder, the encoder and the mask table agree, and the assembler keeps its operands (spec/30_encoding.md
R91 to R95, R104, R109, R110). -/

namespace Sys2Proof

/-! ### A word from its fields -/

/-- A field whose bits above the operand are zero is the operand, extended by zeros. -/
theorem setWidth_extractLsb'_of_above_zero {m k n : Nat} (hm : k + n = m) {x : BitVec m} (h : x.extractLsb' k n = 0) :
    (x.extractLsb' 0 k).setWidth m = x := by
  apply BitVec.eq_of_getLsbD_eq
  intro j hj
  have habove : ∀ d < n, x.getLsbD (k + d) = false := fun d hd => by
    simpa [BitVec.getLsbD_extractLsb', hd] using congrArg (·.getLsbD d) h
  by_cases hjk : j < k
  · simp [hj, hjk]
  · have hbit := habove (j - k) (by omega)
    rw [Nat.add_sub_cancel' (by omega)] at hbit
    simp [hjk, hbit]

theorem ofBool_bit_ofBit (x : BitVec 4) : BitVec.ofBool (AckPolicy.ofBit (x.getLsbD 0)).bit = x.extractLsb' 0 1 := by
  revert x
  decide

theorem encode_eq_of_fields {w : CmdWord} {i : Instr} (hop : CmdWord.op w = i.op)
    (hmod : i.modifier = CmdWord.modifier w) (himm : i.imm = CmdWord.imm w) : encode i = w := by
  rw [encode, ← hop, hmod, himm, fields_append]

/-! One lemma per row of R93: a word with the row's `OP` and zeros in its must-be-zero bits is the word of an operation. -/

theorem encode_init_fields {w : CmdWord} (hop : CmdWord.op w = 1) (hmod : (CmdWord.modifier w).extractLsb' 2 2 = 0) :
    encode (.init (CmdWord.imm w) ((CmdWord.modifier w).extractLsb' 0 2)) = w :=
  encode_eq_of_fields hop (setWidth_extractLsb'_of_above_zero rfl hmod) rfl

theorem encode_start_fields {w : CmdWord} (hop : CmdWord.op w = 2) (hmod : CmdWord.modifier w = 0)
    (himm : CmdWord.imm w = 0) : encode .start = w :=
  encode_eq_of_fields hop hmod.symm himm.symm

theorem encode_txaddr_fields {w : CmdWord} (hop : CmdWord.op w = 3) (hmod : (CmdWord.modifier w).extractLsb' 1 3 = 0)
    (himm : (CmdWord.imm w).extractLsb' 7 25 = 0) :
    encode (.txaddr ((CmdWord.imm w).extractLsb' 0 7) ((CmdWord.modifier w).extractLsb' 0 1)) = w :=
  encode_eq_of_fields hop (setWidth_extractLsb'_of_above_zero rfl hmod) (setWidth_extractLsb'_of_above_zero rfl himm)

theorem encode_txbyte_fields {w : CmdWord} (hop : CmdWord.op w = 4) (hmod : CmdWord.modifier w = 0)
    (himm : (CmdWord.imm w).extractLsb' 8 24 = 0) : encode (.txbyte ((CmdWord.imm w).extractLsb' 0 8)) = w :=
  encode_eq_of_fields hop hmod.symm (setWidth_extractLsb'_of_above_zero rfl himm)

theorem encode_rxbyte_fields {w : CmdWord} (hop : CmdWord.op w = 5) (hmod : (CmdWord.modifier w).extractLsb' 1 3 = 0)
    (himm : CmdWord.imm w = 0) : encode (.rxbyte (.ofBit ((CmdWord.modifier w).getLsbD 0))) = w := by
  refine encode_eq_of_fields hop ?_ himm.symm
  rw [Instr.modifier, ofBool_bit_ofBit]
  exact setWidth_extractLsb'_of_above_zero rfl hmod

theorem encode_stop_fields {w : CmdWord} (hop : CmdWord.op w = 6) (hmod : CmdWord.modifier w = 0)
    (himm : CmdWord.imm w = 0) : encode .stop = w :=
  encode_eq_of_fields hop hmod.symm himm.symm

theorem encode_waitrdy_fields {w : CmdWord} (hop : CmdWord.op w = 7) (hmod : CmdWord.modifier w = 0)
    (himm : (CmdWord.imm w).extractLsb' 8 24 = 0) : encode (.waitrdy ((CmdWord.imm w).extractLsb' 0 8)) = w :=
  encode_eq_of_fields hop hmod.symm (setWidth_extractLsb'_of_above_zero rfl himm)

/-! ### The decoder's inverse -/

theorem whenZero_eq_ok {zero : Bool} {i j : Instr} : whenZero zero i = .ok j ↔ zero = true ∧ i = j := by
  cases zero <;> simp [whenZero]

/-- A word that decodes is the word of its operation: each branch of the decoder has checked what its row asks. -/
theorem encode_of_decode {w : CmdWord} {i : Instr} (h : decode w = .ok i) : encode i = w := by
  simp only [decode] at h
  split_ifs at h with hinit hstart htxaddr htxbyte hrxbyte hstop hwaitrdy <;>
    simp only [whenZero_eq_ok, Bool.and_eq_true, beq_iff_eq] at h
  · obtain ⟨hmod, rfl⟩ := h
    exact encode_init_fields hinit hmod
  · obtain ⟨⟨hmod, himm⟩, rfl⟩ := h
    exact encode_start_fields hstart hmod himm
  · obtain ⟨⟨hmod, himm⟩, rfl⟩ := h
    exact encode_txaddr_fields htxaddr hmod himm
  · obtain ⟨⟨hmod, himm⟩, rfl⟩ := h
    exact encode_txbyte_fields htxbyte hmod himm
  · obtain ⟨⟨hmod, himm⟩, rfl⟩ := h
    exact encode_rxbyte_fields hrxbyte hmod himm
  · obtain ⟨⟨hmod, himm⟩, rfl⟩ := h
    exact encode_stop_fields hstop hmod himm
  · obtain ⟨⟨hmod, himm⟩, rfl⟩ := h
    exact encode_waitrdy_fields hwaitrdy hmod himm

/-- Decoding and encoding are inverse to each other (spec/30_encoding.md R95). -/
theorem decode_eq_ok_iff {w : CmdWord} {i : Instr} : decode w = .ok i ↔ encode i = w := by
  refine ⟨encode_of_decode, ?_⟩
  rintro rfl
  exact decode_encode i

/-- Settles O2, by the law that the decoder inverts the encoder. -/
theorem decodeOfEncodeIsTheOperation : Obligations.DecodeOfEncodeIsTheOperation := decode_encode

/-- Settles O3, by the fields that each branch of the decoder has checked. -/
theorem encodeOfDecodedIsTheWord : Obligations.EncodeOfDecodedIsTheWord := fun _ _ => encode_of_decode

/-- Settles O1, by evaluating the decoder on the fixed words. -/
theorem commandWordsDecodeToTheirOperations : Obligations.CommandWordsDecodeToTheirOperations := by
  unfold Obligations.CommandWordsDecodeToTheirOperations
  decide

/-! ### The mask table -/

theorem row_mem_opcodeTable (i : Instr) : i.row ∈ opcodeTable := by
  cases i <;> simp [opcodeTable, Instr.row]

/-- The encoded word of an operation matches its row, from the lemma of each row. -/
theorem encode_matches_row (i : Instr) : encode i &&& i.row.mask = i.row.matchBits := by
  refine beq_iff_eq.mp (?_ : Laws.EncodedWordMatchesRow.Statement i)
  cases i with
  | init freq ps => exact Laws.EncodedWordMatchesRow.init freq ps
  | start => exact Laws.EncodedWordMatchesRow.start
  | txaddr addr dir => exact Laws.EncodedWordMatchesRow.txaddr addr dir
  | txbyte byte => exact Laws.EncodedWordMatchesRow.txbyte byte
  | rxbyte ack => exact Laws.EncodedWordMatchesRow.rxbyte ack
  | stop => exact Laws.EncodedWordMatchesRow.stop
  | waitrdy budget => exact Laws.EncodedWordMatchesRow.waitrdy budget

theorem matches_row_of_decode {w : CmdWord} {i : Instr} (h : decode w = .ok i) : w &&& i.row.mask = i.row.matchBits :=
  encode_of_decode h ▸ encode_matches_row i

theorem op_and (w v : CmdWord) : CmdWord.op (w &&& v) = CmdWord.op w &&& CmdWord.op v := BitVec.extractLsb'_and

theorem modifier_and (w v : CmdWord) : CmdWord.modifier (w &&& v) = CmdWord.modifier w &&& CmdWord.modifier v :=
  BitVec.extractLsb'_and

theorem imm_and (w v : CmdWord) : CmdWord.imm (w &&& v) = CmdWord.imm w &&& CmdWord.imm v := BitVec.extractLsb'_and

/-- Every row holds the whole of `OP`, and its match word has zeros in `MOD` and `IMM` (spec/30_encoding.md R94). -/
theorem row_fields (i : Instr) :
    CmdWord.op i.row.mask = BitVec.allOnes 4 ∧ CmdWord.op i.row.matchBits = i.op ∧
      CmdWord.modifier i.row.matchBits = 0 ∧ CmdWord.imm i.row.matchBits = 0 := by
  cases i <;> simp only [Instr.row, Instr.op] <;> decide

/-- A row asks for its `OP` and for zeros in the bits of `MOD` and `IMM` that its mask holds. -/
theorem fields_of_matches_row {w : CmdWord} (i : Instr) (h : w &&& i.row.mask = i.row.matchBits) :
    CmdWord.op w = i.op ∧ CmdWord.modifier w &&& CmdWord.modifier i.row.mask = 0 ∧
      CmdWord.imm w &&& CmdWord.imm i.row.mask = 0 := by
  obtain ⟨hmask, hop, hmod, himm⟩ := row_fields i
  refine ⟨?_, ?_, ?_⟩
  · rw [← hop, ← h, op_and, hmask, BitVec.and_allOnes]
  · rw [← modifier_and, h, hmod]
  · rw [← imm_and, h, himm]

/-- Bits under a run of ones of a mask are zero where the masked word is. -/
theorem extractLsb'_eq_zero_of_and {m : Nat} {x mask : BitVec m} {k n : Nat} (hmask : mask.extractLsb' k n = BitVec.allOnes n)
    (h : x &&& mask = 0) : x.extractLsb' k n = 0 := by
  have hbits := congrArg (BitVec.extractLsb' k n) h
  rw [BitVec.extractLsb'_and, hmask, BitVec.and_allOnes] at hbits
  simpa using hbits

theorem eq_zero_of_and_allOnes {m : Nat} {x : BitVec m} (h : x &&& BitVec.allOnes m = 0) : x = 0 := by
  rwa [BitVec.and_allOnes] at h

/-- A word that matches a row of the table is the word of an operation of that row. -/
theorem exists_encode_of_matches {w : CmdWord} {r : OpcodeRow} (hr : r ∈ opcodeTable) (h : w &&& r.mask = r.matchBits) :
    ∃ i, encode i = w ∧ i.row = r := by
  simp only [opcodeTable, List.mem_cons, List.not_mem_nil, or_false] at hr
  obtain rfl | rfl | rfl | rfl | rfl | rfl | rfl := hr <;> obtain ⟨hop, hmod, himm⟩ := fields_of_matches_row _ h
  · exact ⟨_, encode_init_fields hop (extractLsb'_eq_zero_of_and rfl hmod), rfl⟩
  · exact ⟨_, encode_start_fields hop (eq_zero_of_and_allOnes hmod) (eq_zero_of_and_allOnes himm), rfl⟩
  · exact ⟨_, encode_txaddr_fields hop (extractLsb'_eq_zero_of_and rfl hmod) (extractLsb'_eq_zero_of_and rfl himm), rfl⟩
  · exact ⟨_, encode_txbyte_fields hop (eq_zero_of_and_allOnes hmod) (extractLsb'_eq_zero_of_and rfl himm), rfl⟩
  · exact ⟨_, encode_rxbyte_fields hop (extractLsb'_eq_zero_of_and rfl hmod) (eq_zero_of_and_allOnes himm), rfl⟩
  · exact ⟨_, encode_stop_fields hop (eq_zero_of_and_allOnes hmod) (eq_zero_of_and_allOnes himm), rfl⟩
  · exact ⟨_, encode_waitrdy_fields hop (eq_zero_of_and_allOnes hmod) (extractLsb'_eq_zero_of_and rfl himm), rfl⟩

theorem exists_decode_of_matches {w : CmdWord} {r : OpcodeRow} (hr : r ∈ opcodeTable) (h : w &&& r.mask = r.matchBits) :
    ∃ i, decode w = .ok i ∧ i.row = r := by
  obtain ⟨i, hi, hrow⟩ := exists_encode_of_matches hr h
  exact ⟨i, decode_eq_ok_iff.mpr hi, hrow⟩

/-- A word is reserved exactly when it matches no row (spec/30_encoding.md R104). -/
theorem reserved_iff_matches_no_row (w : CmdWord) :
    (∃ e, decode w = .error e) ↔ ∀ r ∈ opcodeTable, w &&& r.mask ≠ r.matchBits := by
  constructor
  · rintro ⟨e, he⟩ r hr h
    obtain ⟨i, hi, -⟩ := exists_decode_of_matches hr h
    simp [hi] at he
  · intro h
    cases hdec : decode w with
    | error e => exact ⟨e, rfl⟩
    | ok i => exact absurd (matches_row_of_decode hdec) (h _ (row_mem_opcodeTable i))

/-- Two rows that one word matches are the row of the operation it decodes to. -/
theorem row_unique_of_matches {w : CmdWord} {a b : OpcodeRow} (ha : a ∈ opcodeTable) (hb : b ∈ opcodeTable)
    (hwa : w &&& a.mask = a.matchBits) (hwb : w &&& b.mask = b.matchBits) : a = b := by
  obtain ⟨i, hi, rfl⟩ := exists_decode_of_matches ha hwa
  obtain ⟨j, hj, rfl⟩ := exists_decode_of_matches hb hwb
  rw [hi] at hj
  cases hj
  rfl

theorem opcodeTable_nodup : opcodeTable.Nodup := by decide

/-- Settles O4: a word matches a row exactly when it is the word of an operation of that row. -/
theorem decodeFollowsTheMaskTable : Obligations.DecodeFollowsTheMaskTable := fun w =>
  ⟨fun i hi => ⟨row_mem_opcodeTable i, matches_row_of_decode hi⟩, fun _ hr h => exists_decode_of_matches hr h,
    reserved_iff_matches_no_row w,
    opcodeTable_nodup.imp_of_mem fun ha hb hne hboth => hne (row_unique_of_matches ha hb hboth.1 hboth.2)⟩

/-! ### The assembler -/

theorem assemble_of_wellFormed (c : Config) {a : AsmCommand} (h : a.wellFormed = true) :
    assemble c a = some (encode (a.instr c)) := if_pos h

/-- Settles O5: an operand in its range is kept by its field's width, and the decoder inverts the encoder. -/
theorem assembledLineCarriesItsOperands : Obligations.AssembledLineCarriesItsOperands := by
  intro c
  refine ⟨fun a h => if_neg (by simp [h]), fun freq ps h => ?_, fun addr dir h => ?_, fun byte h => ?_,
    fun budget h => ?_, fun ack => ?_, ?_, ?_⟩
  · exact ⟨_, _, assemble_of_wellFormed c (decide_eq_true h), decode_encode _, Nat.mod_eq_of_lt h⟩
  · exact ⟨_, _, assemble_of_wellFormed c (decide_eq_true h), decode_encode _, Nat.mod_eq_of_lt h⟩
  · exact ⟨_, _, assemble_of_wellFormed c (decide_eq_true h), decode_encode _, Nat.mod_eq_of_lt h⟩
  · exact ⟨_, _, assemble_of_wellFormed c (decide_eq_true h), decode_encode _, Nat.mod_eq_of_lt h⟩
  · exact ⟨_, assemble_of_wellFormed c rfl, decode_encode _⟩
  · exact (assemble_of_wellFormed c rfl).trans (congrArg some (by decide : encode .start = 0x2000000000))
  · exact (assemble_of_wellFormed c rfl).trans (congrArg some (by decide : encode .stop = 0x6000000000))

end Sys2Proof
end

section
/-! PROOFS. Acceptance of the offered command, and the host's lines (spec/30_encoding.md R104, R106, R107). -/

namespace Sys2Proof.Machine

/-! ### The block's turn in `IDLE` -/

/-- Settles O6: taking the turn off the list leaves the offer as it was. -/
theorem stepRunsTheOfferedCommand : Obligations.StepRunsTheOfferedCommand := fun _ _ _ h hidle hvalid hdec =>
  (step_cons h).trans (blockStep_accepts hidle hvalid hdec)

/-- Settles O8, by what the block finds in its turn. -/
theorem idleBlockWaitsOrRefusesReservedWord : Obligations.IdleBlockWaitsOrRefusesReservedWord := fun _ _ h hidle =>
  ⟨fun hnone => (step_cons h).trans (blockStep_waits hidle hnone),
    fun _ hvalid hdec => (step_cons h).trans (blockStep_reserved hidle hvalid hdec)⟩

/-! ### Acceptance -/

/-- What `CNT` holds after acceptance: WAITRDY loads its budget (spec/44_receive_and_guard.md R178). -/
def loadedCount (i : Instr) (cnt : Byte) : Byte :=
  match i with
  | .waitrdy budget => budget
  | _ => cnt

/-- The latches take the fields of R93 for each operation. -/
theorem accepted_eq_fields (i : Instr) (s : State) : s.accepted i =
    { s with
      lop := i.op, lmod := i.modifier, limm := i.imm, rvalid := false, fsm := firstState i, cnt := loadedCount i s.cnt } := by
  have haccept : s.accept i =
      { s with lop := i.op, lmod := i.modifier, limm := i.imm, rvalid := false, fsm := firstState i } := by
    simp only [State.accept, op_encode, modifier_encode, imm_encode]
  cases i with
  | waitrdy budget => exact congrArg (fun t : State => { t with cnt := budget }) haccept
  | init | start | txaddr | txbyte | rxbyte | stop => exact haccept

theorem exec_eq_fields {i : Instr} {s : State} (hidle : s.fsm = .idle) (hacc : acceptable i s = true) : exec i s = .next
    { s with
      lop := i.op, lmod := i.modifier, limm := i.imm, rvalid := false, fsm := firstState i, cnt := loadedCount i s.cnt } :=
  (exec_of_acceptable hidle hacc).trans (congrArg _ (accepted_eq_fields i s))

/-- Settles O9: each operation is acceptable as stated, and the fields of each are the stated ones. -/
theorem commandsAreAcceptedInIdle : Obligations.CommandsAreAcceptedInIdle := by
  intro s hidle
  refine ⟨fun freq ps hfreq => exec_eq_fields (i := .init freq ps) hidle (bne_iff_ne.mpr hfreq),
    fun hsto => exec_eq_fields (i := .start) hidle (by simp [acceptable, hsto]),
    fun addr dir => exec_eq_fields (i := .txaddr addr dir) hidle rfl,
    fun byte => exec_eq_fields (i := .txbyte byte) hidle rfl, fun ack => ?_,
    exec_eq_fields (i := .stop) hidle rfl, fun budget => exec_eq_fields (i := .waitrdy budget) hidle rfl⟩
  cases ack with
  | sendAck => exact exec_eq_fields (i := .rxbyte .sendAck) hidle rfl
  | sendNack => exact exec_eq_fields (i := .rxbyte .sendNack) hidle rfl

theorem acceptable_of_preconditions {i : Instr} {s : State} (hfreq : ∀ ps, i ≠ .init 0 ps)
    (hstop : i = .start → s.sto = false) : acceptable i s = true := by
  cases i with
  | init freq ps =>
    refine bne_iff_ne.mpr ?_
    rintro rfl
    exact hfreq ps rfl
  | start => simp [acceptable, hstop rfl]
  | txaddr | txbyte | rxbyte | stop | waitrdy => rfl

/-- Acceptance latches the fields of the word that names the operation. -/
theorem accepted_latches {w : CmdWord} {i : Instr} (h : decode w = .ok i) (s : State) :
    (s.accepted i).lop = CmdWord.op w ∧ (s.accepted i).lmod = CmdWord.modifier w ∧
      (s.accepted i).limm = CmdWord.imm w := by
  obtain rfl := encode_of_decode h
  cases i <;> exact ⟨rfl, rfl, rfl⟩

/-- Settles O10: the offered word is the word of the operation it decodes to, which is what acceptance latches. -/
theorem acceptanceLatchesTheOfferedWord : Obligations.AcceptanceLatchesTheOfferedWord := by
  intro s ts i h hidle hvalid hdec hfreq hstop
  have hacc : acceptable i { s with turns := ts } = true := acceptable_of_preconditions hfreq hstop
  obtain ⟨hlop, hlmod, hlimm⟩ := accepted_latches hdec { s with turns := ts }
  refine ⟨_, (stepRunsTheOfferedCommand s ts i h hidle hvalid hdec).trans (exec_of_acceptable hidle hacc), hlop, hlmod,
    hlimm, State.accepted_rvalid .., ?_, accepted_inFlight ..⟩
  simp [State.busy, firstState_ne_idle]

/-! ### The host's lines -/

/-- No move but the host's own writes its lines: a running operation's turn does not even read them. -/
theorem Move.hostLines_eq {s t : State} {u : Turn} (h : Move s u t) (hoffer : ∀ w, u ≠ .offer w)
    (hwithdraw : u ≠ .withdraw) : t.cmd = s.cmd ∧ t.cmdValid = s.cmdValid := by
  cases h with
  | wait => exact ⟨rfl, rfl⟩
  | accept i => cases i <;> exact ⟨rfl, rfl⟩
  | run =>
    have hlines : s.microNext = { s.microNext with cmd := s.cmd, cmdValid := s.cmdValid } :=
      microNext_hostLines s.cmd s.cmdValid s
    exact ⟨by rw [hlines], by rw [hlines]⟩
  | complete status data => exact ⟨engineComplete_cmd status data s, engineComplete_cmdValid status data s⟩
  | stopDone | reset => exact ⟨rfl, rfl⟩
  | offer w => exact absurd rfl (hoffer w)
  | withdraw => exact absurd rfl hwithdraw

/-- Settles O57: the host's two moves by definition, and the other moves one by one. -/
theorem hostLinesAreWrittenByTheHostOnly : Obligations.HostLinesAreWrittenByTheHostOnly := by
  refine ⟨fun s ts => ⟨fun w h => step_cons h, fun h => step_cons h⟩, fun s t h hoffer hwithdraw => ?_⟩
  obtain ⟨ts, n, hm⟩ := exists_move_of_step h
  exact hm.hostLines_eq hoffer hwithdraw

end Sys2Proof.Machine
end

section
/-! PROOFS. INIT, step by step: its refusal, the prescaler, the divisor and the enable (spec/40_init.md). -/

namespace Sys2Proof.Machine

/-! ### Refusal at acceptance -/

/-- In `IDLE` an operation whose precondition is broken is refused by name (spec/40_init.md R126, spec/41_start.md R145). -/
theorem exec_of_preconditionBroken {i : Instr} {s : State} {r : Refusal} (hidle : s.fsm = .idle)
    (h : PreconditionBroken i s r) : exec i s = .refused r := by
  obtain ⟨ps, rfl, rfl⟩ | ⟨rfl, hsto, rfl⟩ := h
  · simp [exec, execInit, hidle]
  · simp [exec, execStart, hidle, hsto]

/-- Settles O11: each of the two is a broken precondition. -/
theorem unacceptableCommandsAreRefused : Obligations.UnacceptableCommandsAreRefused := fun _ hidle =>
  ⟨fun ps => exec_of_preconditionBroken hidle (.inl ⟨ps, rfl, rfl⟩),
    fun hsto => exec_of_preconditionBroken hidle (.inr ⟨rfl, hsto, rfl⟩)⟩

/-! ### The divisor -/

theorem divisor_of_ge {c : Config} {freq : BitVec 32} (ps : BitVec 2) (h : 16 ≤ c.fRef / freq.toNat) :
    divisor c freq ps = some (BitVec.ofNat 8 ((c.fRef / freq.toNat - 16) / (2 * 4 ^ ps.toNat))) := if_pos h

theorem divisor_of_lt {c : Config} {freq : BitVec 32} (ps : BitVec 2) (h : c.fRef / freq.toNat < 16) :
    divisor c freq ps = none := if_neg (Nat.not_le.mpr h)

/-- Settles O29: twice the multiplier is the power of two that the shift divides by. -/
theorem divisorIsARightShift : Obligations.DivisorIsARightShift := by
  intro c freq ps hq
  have hpow : 2 ^ (1 + 2 * ps.toNat) = 2 * 4 ^ ps.toNat := by rw [pow_add, pow_mul, pow_one]; norm_num
  rw [divisor_of_ge ps hq, Nat.shiftRight_eq_div_pow, hpow]

/-- What INIT writes to `BR`, with the count of draws after it: the divisor, or a free value where the rule states none
(spec/40_init.md R123, R127). -/
def dividerWrite (c : Config) (freq : BitVec 32) (ps : BitVec 2) (draws : Nat) : Byte × Nat :=
  match divisor c freq ps with
  | some br => (br, draws)
  | none => (Config.draw 8 draws, draws + 1)

theorem dividerWrite_of_divisor {c : Config} {freq : BitVec 32} {ps : BitVec 2} {br : Byte}
    (h : divisor c freq ps = some br) (draws : Nat) : dividerWrite c freq ps draws = (br, draws) := by
  rw [dividerWrite, h]

theorem dividerWrite_of_ge {c : Config} {freq : BitVec 32} (ps : BitVec 2) (h : 16 ≤ c.fRef / freq.toNat) (draws : Nat) :
    dividerWrite c freq ps draws = (BitVec.ofNat 8 ((c.fRef / freq.toNat - 16) / (2 * 4 ^ ps.toNat)), draws) :=
  dividerWrite_of_divisor (divisor_of_ge ps h) draws

theorem dividerWrite_of_lt {c : Config} {freq : BitVec 32} (ps : BitVec 2) (h : c.fRef / freq.toNat < 16) (draws : Nat) :
    dividerWrite c freq ps draws = (Config.draw 8 draws, draws + 1) := by
  rw [dividerWrite, divisor_of_lt ps h]

/-! ### The three steps -/

theorem exec_init_initPs {s : State} (hm : s.fsm = .initPs) (freq : BitVec 32) (ps : BitVec 2) :
    exec (.init freq ps) s = .next { s with ps := ps, fsm := .initBr } := by
  simp only [exec, execInit, hm, writeThen_psr, State.goto]

theorem exec_init_initBr {s : State} (hm : s.fsm = .initBr) (freq : BitVec 32) (ps : BitVec 2) :
    exec (.init freq ps) s = .next { s with
      br := (dividerWrite s.cfg freq ps s.draws).1
      draws := (dividerWrite s.cfg freq ps s.draws).2
      fsm := .initEn } := by
  simp only [exec, execInit, hm, initWriteDivisor_eq, dividerWrite, State.goto]
  cases divisor s.cfg freq ps <;> rfl

theorem exec_init_initEn {s : State} (hm : s.fsm = .initEn) (freq : BitVec 32) (ps : BitVec 2) :
    exec (.init freq ps) s = .next { s with en := true, fsm := .idle } := by
  simp only [exec, execInit, hm, State.fieldWrite, State.completeVoid]

/-- Settles O26: the block's turn runs the operation in flight, whose selector is `LMOD[1:0]`. -/
theorem initWritesThePrescaler : Obligations.InitWritesThePrescaler := fun s hm =>
  ⟨exec_init_initPs hm, fun ts h => (step_inFlight h (inFlight_init (by simp [hm]))).trans
    (exec_init_initPs (s := { s with turns := ts }) hm _ _)⟩

/-- Settles O27, by the two values that the divisor step writes. -/
theorem initWritesTheDivisorThenEnables : Obligations.InitWritesTheDivisorThenEnables := by
  intro s freq ps
  refine ⟨fun hm hq => ?_, fun hm hq => ?_, fun hm => exec_init_initEn hm freq ps⟩
  · rw [exec_init_initBr hm, dividerWrite_of_ge ps hq]
  · rw [exec_init_initBr hm, dividerWrite_of_lt ps hq]

/-- Settles O28: the byte written is the quotient modulo 256. -/
theorem divisorAboveOneByteWraps : Obligations.DivisorAboveOneByteWraps := by
  intro s freq ps hm hq _
  exact ⟨_, (initWritesTheDivisorThenEnables s freq ps).1 hm hq, BitVec.toNat_ofNat .., rfl⟩

end Sys2Proof.Machine
end

section
/-! PROOFS. Runs through a running operation's turns: the block's alone, and among all agents' moves (spec/00_scope.md R8,
spec/10_state.md R40). -/

namespace Sys2Proof.Machine

/-! ### The block's turns one after another -/

/-- A turn of the block in which the operation in flight answers `t` ends in `t`. -/
theorem microNext_of_exec {i : Instr} {s t : State} (hi : s.inFlight = some i) (h : exec i s = .next t) :
    s.microNext = t := by
  have hbusy : s.fsm ≠ .idle := fun hidle => by simp [inFlight_idle hidle] at hi
  rw [← blockStep_inFlight hi, blockStep_busy hbusy] at h
  exact Host.Outcome.next.inj h

/-- A run that begins with a running operation's turn goes on from its `microNext`. -/
theorem run_block_cons {s t : State} (hbusy : s.fsm ≠ .idle) (h : s.microNext = t) (n : Nat) (ts : List Turn) :
    run (n + 1) { s with turns := .block :: ts } = run n { t with turns := ts } := by
  rw [run_succ_of_next n (step_block_cons hbusy ts), h]

/-! ### Bounded completion under every interleaving -/

/-- What the moves of the engine and the host, reset apart, can make of a state, with any schedule after them: none of them writes
`EA`, `STA`, `EN`, `BR`, `PS`, the FSM's private state or the result channel (spec/20_memory.md R71, R73, R75). -/
inductive OthersMove (s : State) : State → Prop
  | mk (int sto : Bool) (status data : Byte) (cmd : CmdWord) (cmdValid : Bool) (turns : List Turn) : OthersMove s
    { s with int := int, sto := sto, status := status, data := data, cmd := cmd, cmdValid := cmdValid, turns := turns }

/-- A move of the engine or the host, reset apart, always happens, and does no more than `OthersMove` says. -/
theorem step_others {s : State} {u : Turn} {ts : List Turn} (h : s.turns = u :: ts) (hblock : u ≠ .block)
    (hreset : u ≠ .reset) : ∃ t, step s = .next t ∧ t.turns = ts ∧ OthersMove s t := by
  rw [step_cons h]
  cases u with
  | block => exact absurd rfl hblock
  | reset => exact absurd rfl hreset
  | complete status data =>
    refine ⟨_, rfl, engineComplete_turns .., ?_⟩
    unfold engineComplete
    split_ifs
    · exact .mk ..
    · exact .mk ..
  | stopDone | offer | withdraw => exact ⟨_, rfl, rfl, .mk ..⟩

/-- Let `left` bound the block turns that an operation still takes from a
micro-state and a count, and let `Running` be kept by the other agents' moves and by the block's turn, which uses up some of
`left`. Then with that many block turns to come the operation completes within them, whatever the other agents do. -/
theorem run_completes {Running : State → Prop} {left : MicroState → Byte → Nat}
    (hothers : ∀ s t, Running s → OthersMove s t → Running t)
    (hblock : ∀ s, Running s → s.fsm ≠ .idle →
      Running s.microNext ∧ left s.microNext.fsm s.microNext.cnt < left s.fsm s.cnt)
    {s : State} (hs : Running s) (hreset : ∀ u ∈ s.turns, u ≠ .reset) (hleft : left s.fsm s.cnt ≤ s.turns.count .block) :
    ∃ n t, n ≤ s.turns.length ∧ (s.turns.take n).count .block ≤ left s.fsm s.cnt ∧ run n s = .next t ∧ t.fsm = .idle ∧
      Running t := by
  induction hturns : s.turns generalizing s with
  | nil =>
    refine ⟨0, s, by simp, by simp, rfl, ?_, hs⟩
    by_contra hbusy
    obtain ⟨-, hless⟩ := hblock s hs hbusy
    exact Nat.not_lt_zero _ (hless.trans_le (by simpa [hturns] using hleft))
  | cons u ts ih =>
    by_cases hidle : s.fsm = .idle
    · exact ⟨0, s, by simp, by simp, rfl, hidle, hs⟩
    rw [hturns] at hleft
    obtain ⟨hu, hts⟩ : u ≠ .reset ∧ ∀ v ∈ ts, v ≠ .reset := by simpa [hturns] using hreset
    by_cases hturn : u = .block
    · subst hturn
      have hstep : step s = .next { s.microNext with turns := ts } := by
        rw [step_busy (by simp [State.busy, hidle]) hturns, microNext_turns]
      obtain ⟨hnext, hless⟩ := hblock s hs hidle
      rw [List.count_cons_self] at hleft
      obtain ⟨n, t, hn, hcount, hrun, ht⟩ := ih (hothers _ _ hnext (.mk _ _ _ _ _ _ ts)) hts
        (Nat.le_of_lt_succ (hless.trans_le hleft)) rfl
      refine ⟨n + 1, t, Nat.succ_le_succ hn, ?_, (run_succ_of_next n hstep).trans hrun, ht⟩
      rw [List.take_succ_cons, List.count_cons_self]
      exact hcount.trans_lt hless
    · obtain ⟨s', hstep, rfl, hmove⟩ := step_others hturns hturn hu
      have hsame : left s'.fsm s'.cnt = left s.fsm s.cnt := by cases hmove; rfl
      rw [List.count_cons_of_ne hturn, ← hsame] at hleft
      obtain ⟨n, t, hn, hcount, hrun, ht⟩ := ih (hothers _ _ hs hmove) hts hleft rfl
      refine ⟨n + 1, t, Nat.succ_le_succ hn, ?_, (run_succ_of_next n hstep).trans hrun, ht⟩
      rw [List.take_succ_cons, List.count_cons_of_ne hturn, ← hsame]
      exact hcount

end Sys2Proof.Machine
end

section
/-! PROOFS. The whole operation INIT, from the offer in `IDLE` to the completion (spec/40_init.md R120). -/

namespace Sys2Proof.Machine

/-! ### INIT alone -/

theorem microNext_initPs {s : State} (hm : s.fsm = .initPs) :
    s.microNext = { s with ps := s.latchedPs, fsm := .initBr } :=
  microNext_of_exec (inFlight_init (by simp [hm])) (exec_init_initPs hm _ _)

theorem microNext_initBr {s : State} (hm : s.fsm = .initBr) :
    s.microNext = { s with
      br := (dividerWrite s.cfg s.latchedFreq s.latchedPs s.draws).1
      draws := (dividerWrite s.cfg s.latchedFreq s.latchedPs s.draws).2
      fsm := .initEn } :=
  microNext_of_exec (inFlight_init (by simp [hm])) (exec_init_initBr hm _ _)

theorem microNext_initEn {s : State} (hm : s.fsm = .initEn) : s.microNext = { s with en := true, fsm := .idle } :=
  microNext_of_exec (inFlight_init (by simp [hm])) (exec_init_initEn hm _ _)

/-- The block's three turns write `PS`, `BR` and `EN`, and complete without a result. -/
theorem run_init_turns {s : State} (hm : s.fsm = .initPs) (rest : List Turn) :
    run 3 { s with turns := List.replicate 3 .block ++ rest } = .next { s with
      turns := rest
      ps := s.latchedPs
      br := (dividerWrite s.cfg s.latchedFreq s.latchedPs s.draws).1
      draws := (dividerWrite s.cfg s.latchedFreq s.latchedPs s.draws).2
      en := true
      fsm := .idle } := by
  have hps := run_block_cons (by simp [hm]) (microNext_initPs hm) 2 (List.replicate 2 .block ++ rest)
  have hbr := run_block_cons (by simp) (microNext_initBr (s := { s with ps := s.latchedPs, fsm := .initBr }) rfl) 1
    (List.replicate 1 .block ++ rest)
  have hen := run_block_cons (by simp) (microNext_initEn (s := { s with
    ps := s.latchedPs
    br := (dividerWrite s.cfg s.latchedFreq s.latchedPs s.draws).1
    draws := (dividerWrite s.cfg s.latchedFreq s.latchedPs s.draws).2
    fsm := .initEn }) rfl) 0 rest
  exact hps.trans (hbr.trans hen)

/-- The block's four turns from an acceptable offer of INIT, with what the divisor step writes. -/
theorem run_init_offered {s : State} {freq : BitVec 32} {ps : BitVec 2} {rest : List Turn} (hidle : s.fsm = .idle)
    (hvalid : s.cmdValid = true) (hdec : decode s.cmd = .ok (.init freq ps)) (hfreq : freq ≠ 0)
    (hturns : s.turns = List.replicate 4 .block ++ rest) :
    run 4 s = .next { s with
      turns := rest
      lop := 1
      lmod := ps.zeroExtend 4
      limm := freq
      ps := ps
      br := (dividerWrite s.cfg freq ps s.draws).1
      draws := (dividerWrite s.cfg freq ps s.draws).2
      en := true
      rvalid := false } := by
  have haccept := (stepRunsTheOfferedCommand s _ _ hturns hidle hvalid hdec).trans
    ((commandsAreAcceptedInIdle { s with turns := List.replicate 3 .block ++ rest } hidle).1 freq ps hfreq)
  have hps : (ps.zeroExtend 4).extractLsb' 0 2 = ps := extractLsb'_zero_setWidth (by omega) ps
  have hrun := run_init_turns (s := { s with
    lop := 1, lmod := ps.zeroExtend 4, limm := freq, rvalid := false, fsm := .initPs }) rfl rest
  simp only [State.latchedPs, State.latchedFreq, hps] at hrun
  rw [run_succ_of_next 3 haccept, hidle]
  exact hrun

/-! ### INIT among the other agents' moves -/

/-- The block turns INIT still takes. -/
def initTurnsLeft : MicroState → Nat
  | .initPs => 3
  | .initBr => 2
  | .initEn => 1
  | _ => 0

/-- `BR` holds the divisor of the latched operands, where the rule states one (spec/40_init.md R121). -/
def DivisorHeld (s : State) : Prop := ∀ br, divisor s.cfg s.latchedFreq s.latchedPs = some br → s.br = br

/-- The registers that INIT has written by each of its micro-states and by its completion (spec/40_init.md R122 to R124). -/
def InitWritten (s : State) : Prop :=
  match s.fsm with
  | .initPs => True
  | .initBr => s.ps = s.latchedPs
  | .initEn => s.ps = s.latchedPs ∧ DivisorHeld s
  | .idle => s.ps = s.latchedPs ∧ DivisorHeld s ∧ s.en = true
  | _ => False

/-- What INIT keeps from its first step to its completion: its operands and the result channel (spec/40_init.md R120). -/
def InitKept (s t : State) : Prop :=
  t.cfg = s.cfg ∧ t.lmod = s.lmod ∧ t.limm = s.limm ∧ t.res = s.res ∧ t.rvalid = s.rvalid

theorem OthersMove.initWritten {s t : State} (h : OthersMove s t) (hs : InitWritten s) : InitWritten t := by
  cases h
  exact hs

theorem OthersMove.initKept {r s t : State} (h : OthersMove s t) (hs : InitKept r s) : InitKept r t := by
  cases h
  exact hs

/-- A turn of INIT goes on to its next micro-state, with one more register written. -/
theorem microNext_init {r s : State} (hw : InitWritten s) (hk : InitKept r s) (hbusy : s.fsm ≠ .idle) :
    (InitWritten s.microNext ∧ InitKept r s.microNext) ∧ initTurnsLeft s.microNext.fsm < initTurnsLeft s.fsm := by
  cases hm : s.fsm with
  | idle => exact absurd hm hbusy
  | initPs =>
    rw [microNext_initPs hm]
    exact ⟨⟨rfl, hk⟩, Nat.lt_succ_self _⟩
  | initBr =>
    simp only [InitWritten, hm] at hw
    rw [microNext_initBr hm]
    exact ⟨⟨⟨hw, fun br hbr => congrArg Prod.fst (dividerWrite_of_divisor hbr s.draws)⟩, hk⟩, Nat.lt_succ_self _⟩
  | initEn =>
    simp only [InitWritten, hm] at hw
    obtain ⟨hps, hbr⟩ := hw
    rw [microNext_initEn hm]
    exact ⟨⟨⟨hps, hbr, rfl⟩, hk⟩, Nat.lt_succ_self _⟩
  | _ => simp [InitWritten, hm] at hw

/-- Settles O36: the block's four turns one after another; and among other agents' moves, INIT's turns each write one register
more and leave one turn fewer. -/
theorem initCompletesInThreeSteps : Obligations.InitCompletesInThreeSteps := by
  refine ⟨fun s rest freq ps hidle hvalid hdec hfreq hturns => ?_, fun s hm hreset hcount => ?_⟩
  · have hrun := run_init_offered hidle hvalid hdec hfreq hturns
    refine ⟨fun hq => ?_, fun hq => ?_⟩
    · rwa [dividerWrite_of_ge ps hq] at hrun
    · rwa [dividerWrite_of_lt ps hq] at hrun
  · obtain ⟨n, t, hn, hblocks, hrun, hidle, hw, hcfg, hlmod, hlimm, hres, hvalid⟩ :=
      run_completes (Running := fun t => InitWritten t ∧ InitKept s t) (left := fun m _ => initTurnsLeft m)
        (fun _ _ h hmove => ⟨hmove.initWritten h.1, hmove.initKept h.2⟩) (fun _ h hbusy => microNext_init h.1 h.2 hbusy)
        ⟨by simp [InitWritten, hm], rfl, rfl, rfl, rfl, rfl⟩ hreset (by simpa [hm, initTurnsLeft] using hcount)
    simp only [InitWritten, DivisorHeld, hidle, State.latchedPs, State.latchedFreq, hcfg, hlmod, hlimm] at hw
    obtain ⟨hps, hbr, hen⟩ := hw
    exact ⟨n, t, hn, by simpa [hm, initTurnsLeft] using hblocks, hrun, hidle, hen, hps, hres, hvalid,
      fun hq => hbr _ (divisor_of_ge _ hq)⟩

end Sys2Proof.Machine
end

section
/-! PROOFS. One step of the control writes, of the unbounded polls and of START's check (spec/41_start.md R141 to R143). -/

namespace Sys2Proof.Machine

/-! ### The control writes -/

theorem exec_start_startCtl {s : State} (hm : s.fsm = .startCtl) : exec .start s = .next { s with
    int := false, ea := false, sta := true, sto := false, en := true, fsm := .startPoll } := by
  simp only [exec, execStart, hm, ctlWriteThen_start, State.goto]

theorem exec_txaddr_txaCtl {s : State} (hm : s.fsm = .txaCtl) (addr : BitVec 7) (dir : BitVec 1) :
    exec (.txaddr addr dir) s = .next { s with
      int := false, ea := false, sta := false, sto := false, en := true, fsm := .txaPoll } := by
  simp only [exec, execTxaddr, hm, ctlWriteThen_transmit, State.goto]

theorem exec_txbyte_txbCtl {s : State} (hm : s.fsm = .txbCtl) (byte : Byte) :
    exec (.txbyte byte) s = .next { s with
      int := false, ea := false, sta := false, sto := false, en := true, fsm := .txbPoll } := by
  simp only [exec, execTxbyte, hm, ctlWriteThen_transmit, State.goto]

theorem exec_stop_stopCtl {s : State} (hm : s.fsm = .stopCtl) : exec .stop s = .next { s with
    int := false, ea := false, sta := false, sto := true, en := true, fsm := .idle } := by
  simp only [exec, execStop, hm, ctlWriteThen_stop, State.completeVoid]

/-- Settles O23: each of the four steps is its operation's whole control write, then its `goto` or completion. -/
theorem controlWriteStepsSignalTheEngine : Obligations.ControlWriteStepsSignalTheEngine := fun _ =>
  ⟨exec_start_startCtl, fun addr dir hm => exec_txaddr_txaCtl hm addr dir, fun byte hm => exec_txbyte_txbCtl hm byte,
    exec_stop_stopCtl⟩

/-! ### The unbounded polls -/

theorem exec_start_startPoll {s : State} (hm : s.fsm = .startPoll) :
    exec .start s = .next { s with fsm := if s.int then .startChk else .startPoll } := by
  simp only [exec, execStart, hm, pollInt_eq, State.goto]

theorem exec_txaddr_txaPoll {s : State} (hm : s.fsm = .txaPoll) (addr : BitVec 7) (dir : BitVec 1) :
    exec (.txaddr addr dir) s = .next { s with fsm := if s.int then .txaChk else .txaPoll } := by
  simp only [exec, execTxaddr, hm, pollInt_eq, State.goto]

theorem exec_txbyte_txbPoll {s : State} (hm : s.fsm = .txbPoll) (byte : Byte) :
    exec (.txbyte byte) s = .next { s with fsm := if s.int then .txbChk else .txbPoll } := by
  simp only [exec, execTxbyte, hm, pollInt_eq, State.goto]

/-- Settles O21: each of the three steps is the one shared poll iteration. -/
theorem unboundedPollWaitsForTheFlag : Obligations.UnboundedPollWaitsForTheFlag := fun _ =>
  ⟨exec_start_startPoll, fun addr dir hm => exec_txaddr_txaPoll hm addr dir, fun byte hm => exec_txbyte_txbPoll hm byte⟩

/-! ### START's check -/

theorem startSuccess_eq_true_iff {c : Config} {status : Byte} :
    startSuccess c status = true ↔ status = c.stStart ∨ status = c.stRepStart := by
  simp only [startSuccess, Bool.or_eq_true, beq_iff_eq]

/-- Settles O25: the shared status check, with START's two success statuses. -/
theorem startCheckReturnsOkOrTheRawStatus : Obligations.StartCheckReturnsOkOrTheRawStatus := by
  intro s hm
  simp only [exec, execStart, hm, checkStatus_eq, startSuccess_eq_true_iff, State.complete]

end Sys2Proof.Machine
end

section
/-! PROOFS. Waiting in an unbounded poll: until the engine's *complete* step, and for ever without one (spec/41_start.md R142,
R144). -/

namespace Sys2Proof.Machine

/-! ### A poll's turn -/

/-- The micro-states of the unbounded polls (spec/41_start.md R142, spec/42_address.md R153, spec/43_transmit_byte.md R163). -/
def unboundedPolls : List MicroState := [.startPoll, .txaPoll, .txbPoll]

/-- The check state that follows an unbounded poll. -/
def checkAfterPoll : MicroState → MicroState
  | .startPoll => .startChk
  | .txaPoll => .txaChk
  | .txbPoll => .txbChk
  | m => m

theorem ne_idle_of_mem_unboundedPolls {m : MicroState} (h : m ∈ unboundedPolls) : m ≠ .idle := by
  rintro rfl
  simp [unboundedPolls] at h

theorem microNext_unboundedPoll {s : State} (hm : s.fsm ∈ unboundedPolls) :
    s.microNext = s.goto (if s.int then checkAfterPoll s.fsm else s.fsm) := by
  cases h : s.fsm with
  | startPoll | txaPoll | txbPoll => simp only [State.microNext, h, checkAfterPoll]
  | _ => simp [unboundedPolls, h] at hm

/-- A poll that sees no flag changes nothing. -/
theorem microNext_unboundedPoll_of_no_flag {s : State} (hm : s.fsm ∈ unboundedPolls) (hint : s.int = false) :
    s.microNext = s := by
  rw [microNext_unboundedPoll hm, hint]
  rfl

theorem microNext_unboundedPoll_of_flag {s : State} (hm : s.fsm ∈ unboundedPolls) (hint : s.int = true) :
    s.microNext = s.goto (checkAfterPoll s.fsm) := by
  rw [microNext_unboundedPoll hm, if_pos hint]

/-! ### Until the engine completes -/

/-- Any number of polls that see no flag leave the state as it was. -/
theorem run_polls_of_no_flag {s : State} (hm : s.fsm ∈ unboundedPolls) (hint : s.int = false) (k n : Nat)
    (ts : List Turn) :
    run (k + n) { s with turns := List.replicate k .block ++ ts } = run n { s with turns := ts } := by
  induction k with
  | zero => simp
  | succ k ih =>
    rw [Nat.succ_add]
    exact (run_block_cons (ne_idle_of_mem_unboundedPolls hm) (microNext_unboundedPoll_of_no_flag hm hint) _ _).trans ih

/-- An enabled engine that completes after `k` polls saw no flag brings the next poll to the check, with what it delivered. -/
theorem run_polls_to_check {s : State} (hm : s.fsm ∈ unboundedPolls) (hint : s.int = false) (hen : s.en = true)
    (status data : Byte) (k n : Nat) (ts : List Turn) :
    run (k + (n + 2)) { s with turns := List.replicate k .block ++ .complete status data :: .block :: ts } =
      run n { s with turns := ts, status := status, data := data, int := true, fsm := checkAfterPoll s.fsm } := by
  have hcomplete : step { s with turns := .complete status data :: .block :: ts } =
      .next { s with turns := .block :: ts, status := status, data := data, int := true } :=
    (engineStepsAsItsContractSays _ _).1 status data rfl hen hint
  rw [run_polls_of_no_flag hm hint, run_succ_of_next (n + 1) hcomplete]
  exact run_block_cons (s := { s with status := status, data := data, int := true }) (ne_idle_of_mem_unboundedPolls hm)
    (microNext_unboundedPoll_of_flag hm rfl) n ts

/-! ### Without a *complete* step -/

/-- What a wait keeps: the poll state, the flag, the result channel and the latched command. -/
def StillWaits (s t : State) : Prop :=
  t.fsm = s.fsm ∧ t.int = s.int ∧ t.res = s.res ∧ t.rvalid = s.rvalid ∧ t.latchedWord = s.latchedWord

theorem StillWaits.trans {r s t : State} (h : StillWaits r s) (h' : StillWaits s t) : StillWaits r t := by
  obtain ⟨hfsm, hint, hres, hvalid, hword⟩ := h
  obtain ⟨hfsm', hint', hres', hvalid', hword'⟩ := h'
  exact ⟨hfsm'.trans hfsm, hint'.trans hint, hres'.trans hres, hvalid'.trans hvalid, hword'.trans hword⟩

/-- The moves that do not end a wait: all but reset and the engine's *complete* step. -/
def EndsNoWait (u : Turn) : Prop := u ≠ .reset ∧ ∀ status data, u ≠ .complete status data

theorem step_stillWaits {s : State} {u : Turn} {ts : List Turn} (hm : s.fsm ∈ unboundedPolls) (hint : s.int = false)
    (h : s.turns = u :: ts) (hu : EndsNoWait u) : ∃ t, step s = .next t ∧ t.turns = ts ∧ StillWaits s t := by
  obtain ⟨hreset, hcomplete⟩ := hu
  rw [step_cons h]
  cases u with
  | block =>
    have hstep : blockStep { s with turns := ts } = .next (State.microNext { s with turns := ts }) :=
      blockStep_busy (ne_idle_of_mem_unboundedPolls hm)
    rw [microNext_unboundedPoll_of_no_flag (s := { s with turns := ts }) hm hint] at hstep
    exact ⟨_, hstep, rfl, rfl, rfl, rfl, rfl, rfl⟩
  | complete status data => exact absurd rfl (hcomplete status data)
  | reset => exact absurd rfl hreset
  | stopDone | offer | withdraw => exact ⟨_, rfl, rfl, rfl, rfl, rfl, rfl, rfl⟩

/-- The hang of spec/41_start.md R144: the wait outlasts any number of moves that do not end it. -/
theorem run_stillWaits {n : Nat} {s : State} (hm : s.fsm ∈ unboundedPolls) (hint : s.int = false)
    (hn : n ≤ s.turns.length) (hturns : ∀ u ∈ s.turns.take n, EndsNoWait u) :
    ∃ t, run n s = .next t ∧ StillWaits s t := by
  induction n generalizing s with
  | zero => exact ⟨s, rfl, rfl, rfl, rfl, rfl, rfl⟩
  | succ n ih =>
    cases hs : s.turns with
    | nil => simp [hs] at hn
    | cons u ts =>
      rw [hs, List.take_succ_cons, List.forall_mem_cons] at hturns
      obtain ⟨hu, hts⟩ := hturns
      obtain ⟨s', hstep, rfl, hwaits⟩ := step_stillWaits hm hint hs hu
      have ⟨hfsm, hint', _⟩ := hwaits
      obtain ⟨t, hrun, ht⟩ := ih (hfsm ▸ hm) (hint'.trans hint) (by simpa [hs] using hn) hts
      exact ⟨t, (run_succ_of_next n hstep).trans hrun, hwaits.trans ht⟩

/-- Settles O44: the wait goes on, and a reset ends it as it ends any state. -/
theorem unboundedPollHangsOnADeadBus : Obligations.UnboundedPollHangsOnADeadBus := by
  intro n s hm hint hn hturns
  obtain ⟨u, hrun, hfsm, hint', hres, hvalid, hword⟩ := run_stillWaits hm hint hn hturns
  have hbusy : u.busy = true := by simpa [State.busy, hfsm] using ne_idle_of_mem_unboundedPolls hm
  refine ⟨u, hrun, hfsm, hbusy, hint'.trans hint, hres, hvalid, hword, fun ts hts => ?_⟩
  obtain ⟨v, hstep, hidle, -⟩ := resetReachesIdleFromAnyState u ts hts
  exact ⟨v, hstep, hidle, by simp [State.busy, hidle]⟩

end Sys2Proof.Machine
end

section
/-! PROOFS. The whole operation START, from the offer in `IDLE` to its result (spec/41_start.md R140). -/

namespace Sys2Proof.Machine

/-! ### Acceptance -/

/-- A run that begins with the acceptance of an offer goes on from the latched operation's first micro-state. -/
theorem run_accept {s : State} {ts : List Turn} {i : Instr} (hturns : s.turns = .block :: ts) (hidle : s.fsm = .idle)
    (hvalid : s.cmdValid = true) (hdec : decode s.cmd = .ok i) (hacc : acceptable i s = true) (n : Nat) :
    run (n + 1) s = run n { s with
      turns := ts
      lop := i.op
      lmod := i.modifier
      limm := i.imm
      rvalid := false
      fsm := firstState i
      cnt := loadedCount i s.cnt } := by
  have hacc' : acceptable i { s with turns := ts } = true := by cases i <;> exact hacc
  exact run_succ_of_next n ((stepRunsTheOfferedCommand s ts i hturns hidle hvalid hdec).trans
    (exec_eq_fields hidle hacc'))

/-! ### START's own turns -/

theorem microNext_startCtl {s : State} (hm : s.fsm = .startCtl) : s.microNext = { s with
    int := false, ea := false, sta := true, sto := false, en := true, fsm := .startPoll } :=
  microNext_of_exec (inFlight_start (by simp [hm])) (exec_start_startCtl hm)

theorem microNext_startChk {s : State} (hm : s.fsm = .startChk) : s.microNext = { s with
    tmp := s.status
    res := if s.status = s.cfg.stStart ∨ s.status = s.cfg.stRepStart then s.cfg.ok else s.status
    rvalid := true
    fsm := .idle } :=
  microNext_of_exec (inFlight_start (by simp [hm])) (startCheckReturnsOkOrTheRawStatus s hm)

/-- The turns after START's acceptance: the control write, `k` polls that see no flag, the engine's completion, the poll that
sees the flag, and the check. -/
theorem run_start_turns {s : State} (hm : s.fsm = .startCtl) (k : Nat) (status data : Byte) (rest : List Turn) :
    run (k + 4) { s with turns :=
        .block :: (List.replicate k .block ++ .complete status data :: .block :: .block :: rest) } = .next { s with
      turns := rest
      int := true
      ea := false
      sta := true
      sto := false
      en := true
      status := status
      data := data
      tmp := status
      res := if status = s.cfg.stStart ∨ status = s.cfg.stRepStart then s.cfg.ok else status
      rvalid := true
      fsm := .idle } := by
  have hcontrol := run_block_cons (by simp [hm]) (microNext_startCtl hm) (k + 3)
    (List.replicate k .block ++ .complete status data :: .block :: .block :: rest)
  have hwait := run_polls_to_check (s := { s with
    int := false, ea := false, sta := true, sto := false, en := true, fsm := .startPoll })
    (by simp [unboundedPolls]) rfl rfl status data k 1 (.block :: rest)
  have hcheck := run_block_cons (by simp) (microNext_startChk (s := { s with
    status := status, data := data, int := true, ea := false, sta := true, sto := false, en := true, fsm := .startChk })
    rfl) 0 rest
  exact hcontrol.trans (hwait.trans hcheck)

/-- Settles O37: acceptance, then START's own turns with the engine's completion among them. -/
theorem startCompletesWhenTheEngineDoes : Obligations.StartCompletesWhenTheEngineDoes := by
  intro s rest k status data hidle hvalid hdec hsto hturns
  rw [List.append_assoc] at hturns
  have hacc : acceptable .start s = true := by simp [acceptable, hsto]
  rw [run_accept hturns hidle hvalid hdec hacc (k + 4), hidle]
  exact run_start_turns (s := { s with lop := 2, lmod := 0, limm := 0, rvalid := false, fsm := .startCtl }) rfl k status
    data rest

end Sys2Proof.Machine
end

section
/-! PROOFS. One step of the checks of TXADDR and TXBYTE (spec/42_address.md R154, spec/43_transmit_byte.md R164). -/

namespace Sys2Proof.Machine

theorem exec_txaddr_txaChk {s : State} (hm : s.fsm = .txaChk) (addr : BitVec 7) (dir : BitVec 1) :
    exec (.txaddr addr dir) s = .next { s with
      tmp := s.status
      res := if s.status = slaAck s.cfg dir then s.cfg.ok else s.status
      rvalid := true
      fsm := .idle } := by
  simp only [exec, execTxaddr, hm, checkStatus_eq, beq_iff_eq, State.complete]

theorem exec_txbyte_txbChk {s : State} (hm : s.fsm = .txbChk) (byte : Byte) :
    exec (.txbyte byte) s = .next { s with
      tmp := s.status
      res := if s.status = s.cfg.stMtDataAck then s.cfg.ok else s.status
      rvalid := true
      fsm := .idle } := by
  simp only [exec, execTxbyte, hm, checkStatus_eq, beq_iff_eq, State.complete]

/-- Settles O24: the shared status check, against the direction's or the data's success status; a running TXADDR takes its
direction from `LMOD[0]`. -/
theorem transmitChecksReturnOkOrTheRawStatus : Obligations.TransmitChecksReturnOkOrTheRawStatus := fun s =>
  ⟨fun addr dir hm => exec_txaddr_txaChk hm addr dir, fun byte hm => exec_txbyte_txbChk hm byte,
    fun ts hm h => (step_inFlight h (inFlight_txaddr (by simp [hm]))).trans
      (exec_txaddr_txaChk (s := { s with turns := ts }) hm _ _)⟩

end Sys2Proof.Machine
end

section
/-! PROOFS. The whole operation TXADDR, from the offer in `IDLE` to its result (spec/42_address.md R150). -/

namespace Sys2Proof.Machine

/-! ### TXADDR's own turns -/

theorem exec_txaddr_txaData {s : State} (hm : s.fsm = .txaData) (addr : BitVec 7) (dir : BitVec 1) :
    exec (.txaddr addr dir) s = .next { s with data := addr ++ dir, fsm := .txaCtl } := by
  simp only [exec, execTxaddr, hm, writeThen_dr, slaByte_eq_append, State.goto]

theorem microNext_txaData {s : State} (hm : s.fsm = .txaData) :
    s.microNext = { s with data := s.latchedAddr ++ s.latchedDir, fsm := .txaCtl } :=
  microNext_of_exec (inFlight_txaddr (by simp [hm])) (exec_txaddr_txaData hm _ _)

theorem microNext_txaCtl {s : State} (hm : s.fsm = .txaCtl) : s.microNext = { s with
    int := false, ea := false, sta := false, sto := false, en := true, fsm := .txaPoll } :=
  microNext_of_exec (inFlight_txaddr (by simp [hm])) (exec_txaddr_txaCtl hm _ _)

theorem microNext_txaChk {s : State} (hm : s.fsm = .txaChk) : s.microNext = { s with
    tmp := s.status
    res := if s.status = slaAck s.cfg s.latchedDir then s.cfg.ok else s.status
    rvalid := true
    fsm := .idle } :=
  microNext_of_exec (inFlight_txaddr (by simp [hm])) (exec_txaddr_txaChk hm _ _)

/-! ### The two parts of the run -/

/-- The latched modifier gives the direction back (spec/42_address.md R150). -/
theorem direction_of_modifier (dir : BitVec 1) : (dir.zeroExtend 4).extractLsb' 0 1 = dir :=
  extractLsb'_zero_setWidth (by omega) dir

/-- Acceptance and the first turn: the operands are latched and the data register takes the address byte, before the control write
(spec/42_address.md R151). -/
theorem run_txaddr_to_control {s : State} {addr : BitVec 7} {dir : BitVec 1} {ts : List Turn}
    (hturns : s.turns = .block :: .block :: ts) (hidle : s.fsm = .idle) (hvalid : s.cmdValid = true)
    (hdec : decode s.cmd = .ok (.txaddr addr dir)) (n : Nat) :
    run (n + 2) s = run n { s with
      turns := ts
      lop := 3
      lmod := dir.zeroExtend 4
      limm := addr.zeroExtend 32
      rvalid := false
      data := addr ++ dir
      fsm := .txaCtl } := by
  have haddr : (addr.zeroExtend 32).extractLsb' 0 7 = addr := extractLsb'_zero_setWidth (by omega) addr
  have hdata := run_block_cons (by simp) (microNext_txaData (s := { s with
    lop := 3, lmod := dir.zeroExtend 4, limm := addr.zeroExtend 32, rvalid := false, fsm := .txaData }) rfl) n ts
  simp only [State.latchedAddr, State.latchedDir, haddr, direction_of_modifier] at hdata
  exact (run_accept hturns hidle hvalid hdec rfl (n + 1)).trans hdata

/-- The turns after the address byte: the control write, `k` polls that see no flag, the engine's completion, the poll that
sees the flag, and the check. -/
theorem run_txaddr_from_control {s : State} (hm : s.fsm = .txaCtl) (k : Nat) (status data : Byte) (rest : List Turn) :
    run (k + 4) { s with turns :=
        .block :: (List.replicate k .block ++ .complete status data :: .block :: .block :: rest) } = .next { s with
      turns := rest
      int := true
      ea := false
      sta := false
      sto := false
      en := true
      status := status
      data := data
      tmp := status
      res := if status = slaAck s.cfg s.latchedDir then s.cfg.ok else status
      rvalid := true
      fsm := .idle } := by
  have hcontrol := run_block_cons (by simp [hm]) (microNext_txaCtl hm) (k + 3)
    (List.replicate k .block ++ .complete status data :: .block :: .block :: rest)
  have hwait := run_polls_to_check (s := { s with
    int := false, ea := false, sta := false, sto := false, en := true, fsm := .txaPoll })
    (by simp [unboundedPolls]) rfl rfl status data k 1 (.block :: rest)
  have hcheck := run_block_cons (by simp) (microNext_txaChk (s := { s with
    status := status, data := data, int := true, ea := false, sta := false, sto := false, en := true, fsm := .txaChk })
    rfl) 0 rest
  exact hcontrol.trans (hwait.trans hcheck)

/-- Settles O38: acceptance and the address byte, then TXADDR's other turns with the engine's completion among them. -/
theorem txaddrCompletesWhenTheEngineDoes : Obligations.TxaddrCompletesWhenTheEngineDoes := by
  intro s rest k addr dir status data hidle hvalid hdec hturns
  rw [List.append_assoc] at hturns
  have hcontrol := run_txaddr_to_control hturns hidle hvalid hdec
  refine ⟨⟨_, hcontrol 0, rfl, rfl, rfl⟩, ?_⟩
  have hrun := run_txaddr_from_control (s := { s with
    lop := 3
    lmod := dir.zeroExtend 4
    limm := addr.zeroExtend 32
    rvalid := false
    data := addr ++ dir
    fsm := .txaCtl }) rfl k status data rest
  simp only [State.latchedDir, direction_of_modifier] at hrun
  rw [hcontrol (k + 4), hidle]
  exact hrun

end Sys2Proof.Machine
end

section
/-! PROOFS. The data register writes of TXADDR and TXBYTE, and the whole operation TXBYTE, from the offer in `IDLE` to its result
(spec/42_address.md R151, spec/43_transmit_byte.md R160 to R166). -/

namespace Sys2Proof.Machine

/-! ### The data register write -/

theorem exec_txbyte_txbData {s : State} (hm : s.fsm = .txbData) (byte : Byte) :
    exec (.txbyte byte) s = .next { s with data := byte, fsm := .txbCtl } := by
  simp only [exec, execTxbyte, hm, writeThen_dr, State.goto]

/-- Settles O22: each operation's own write; a running TXBYTE takes its operand from the latches. -/
theorem transmitStepsWriteTheDataRegister : Obligations.TransmitStepsWriteTheDataRegister := fun s =>
  ⟨fun addr dir hm => exec_txaddr_txaData hm addr dir, fun byte hm => exec_txbyte_txbData hm byte,
    fun ts hm h => (step_inFlight h (inFlight_txbyte (by simp [hm]))).trans
      (exec_txbyte_txbData (s := { s with turns := ts }) hm _)⟩

/-! ### TXBYTE's own turns -/

theorem microNext_txbData {s : State} (hm : s.fsm = .txbData) :
    s.microNext = { s with data := s.latchedByte, fsm := .txbCtl } :=
  microNext_of_exec (inFlight_txbyte (by simp [hm])) (exec_txbyte_txbData hm _)

theorem microNext_txbCtl {s : State} (hm : s.fsm = .txbCtl) : s.microNext = { s with
    int := false, ea := false, sta := false, sto := false, en := true, fsm := .txbPoll } :=
  microNext_of_exec (inFlight_txbyte (by simp [hm])) (exec_txbyte_txbCtl hm _)

theorem microNext_txbChk {s : State} (hm : s.fsm = .txbChk) : s.microNext = { s with
    tmp := s.status
    res := if s.status = s.cfg.stMtDataAck then s.cfg.ok else s.status
    rvalid := true
    fsm := .idle } :=
  microNext_of_exec (inFlight_txbyte (by simp [hm])) (exec_txbyte_txbChk hm _)

/-! ### The two parts of the run -/

/-- Acceptance and the first turn: the operand is latched and the data register takes it, before the control write
(spec/43_transmit_byte.md R161). -/
theorem run_txbyte_to_control {s : State} {byte : Byte} {ts : List Turn} (hturns : s.turns = .block :: .block :: ts)
    (hidle : s.fsm = .idle) (hvalid : s.cmdValid = true) (hdec : decode s.cmd = .ok (.txbyte byte)) (n : Nat) :
    run (n + 2) s = run n { s with
      turns := ts
      lop := 4
      lmod := 0
      limm := byte.zeroExtend 32
      rvalid := false
      data := byte
      fsm := .txbCtl } := by
  have hbyte : (byte.zeroExtend 32).extractLsb' 0 8 = byte := extractLsb'_zero_setWidth (by omega) byte
  have hdata := run_block_cons (by simp) (microNext_txbData (s := { s with
    lop := 4, lmod := 0, limm := byte.zeroExtend 32, rvalid := false, fsm := .txbData }) rfl) n ts
  simp only [State.latchedByte, hbyte] at hdata
  exact (run_accept hturns hidle hvalid hdec rfl (n + 1)).trans hdata

/-- The turns after the data byte: the control write, `k` polls that see no flag, the engine's completion, the poll that sees
the flag, and the check. -/
theorem run_txbyte_from_control {s : State} (hm : s.fsm = .txbCtl) (k : Nat) (status data : Byte) (rest : List Turn) :
    run (k + 4) { s with turns :=
        .block :: (List.replicate k .block ++ .complete status data :: .block :: .block :: rest) } = .next { s with
      turns := rest
      int := true
      ea := false
      sta := false
      sto := false
      en := true
      status := status
      data := data
      tmp := status
      res := if status = s.cfg.stMtDataAck then s.cfg.ok else status
      rvalid := true
      fsm := .idle } := by
  have hcontrol := run_block_cons (by simp [hm]) (microNext_txbCtl hm) (k + 3)
    (List.replicate k .block ++ .complete status data :: .block :: .block :: rest)
  have hwait := run_polls_to_check (s := { s with
    int := false, ea := false, sta := false, sto := false, en := true, fsm := .txbPoll })
    (by simp [unboundedPolls]) rfl rfl status data k 1 (.block :: rest)
  have hcheck := run_block_cons (by simp) (microNext_txbChk (s := { s with
    status := status, data := data, int := true, ea := false, sta := false, sto := false, en := true, fsm := .txbChk })
    rfl) 0 rest
  exact hcontrol.trans (hwait.trans hcheck)

/-- Settles O39: acceptance and the data byte, then TXBYTE's other turns with the engine's completion among them. -/
theorem txbyteCompletesWhenTheEngineDoes : Obligations.TxbyteCompletesWhenTheEngineDoes := by
  intro s rest k byte status data hidle hvalid hdec hturns
  rw [List.append_assoc] at hturns
  have hcontrol := run_txbyte_to_control hturns hidle hvalid hdec
  refine ⟨⟨_, hcontrol 0, rfl, rfl, rfl⟩, ?_⟩
  rw [hcontrol (k + 4), hidle]
  exact run_txbyte_from_control (s := { s with
    lop := 4, lmod := 0, limm := byte.zeroExtend 32, rvalid := false, data := byte, fsm := .txbCtl }) rfl k status data
    rest

end Sys2Proof.Machine
end

section
/-! PROOFS. One step of RXBYTE, and one iteration of the timeout guard in RXBYTE and WAITRDY
(spec/44_receive_and_guard.md R171 to R176, R179, R180). -/

namespace Sys2Proof.Machine

/-! ### RXBYTE's steps but the poll -/

theorem bit_eq_decide (ack : AckPolicy) : ack.bit = decide (ack = .sendAck) := by
  cases ack <;> rfl

theorem exec_rxbyte_rxEa {s : State} (hm : s.fsm = .rxEa) (ack : AckPolicy) :
    exec (.rxbyte ack) s = .next { s with ea := decide (ack = .sendAck), fsm := .rxClr } := by
  simp only [exec, execRxbyte, hm, State.fieldWrite, State.goto, bit_eq_decide]

theorem exec_rxbyte_rxClr {s : State} (hm : s.fsm = .rxClr) (ack : AckPolicy) :
    exec (.rxbyte ack) s = .next { s with int := false, cnt := 60, fsm := .rxPoll } := by
  simp only [exec, execRxbyte, hm, State.fieldWrite, rxBudget]

/-- The check's branch, by the status and the configured polarity (spec/44_receive_and_guard.md R175, D11): the byte branch when
a receive code is what the polarity asks for. -/
theorem rxHit_xor_inverted {c : Config} {status : Byte} {inverted : Bool}
    (h : (status = c.stMrDataAck ∨ status = c.stMrDataNack) ↔ c.rxCheckInverted = inverted) :
    (rxHit c status ^^ c.rxCheckInverted) = !inverted := by
  have hhit : rxHit c status = true ↔ c.rxCheckInverted = inverted := by
    rw [← h, rxHit, Bool.or_eq_true, beq_iff_eq, beq_iff_eq]
  cases hpolarity : c.rxCheckInverted <;> cases inverted <;> simpa [hpolarity] using hhit

theorem exec_rxbyte_rxChk_of_byte {s : State} (hm : s.fsm = .rxChk)
    (h : (rxHit s.cfg s.status ^^ s.cfg.rxCheckInverted) = true) (ack : AckPolicy) :
    exec (.rxbyte ack) s = .next { s with tmp := s.status, fsm := .rxData } := by
  simp only [exec, execRxbyte, hm, receiveCheck_eq, if_pos h, State.goto]

theorem exec_rxbyte_rxChk_of_error {s : State} (hm : s.fsm = .rxChk)
    (h : (rxHit s.cfg s.status ^^ s.cfg.rxCheckInverted) = false) (ack : AckPolicy) :
    exec (.rxbyte ack) s =
      .next { s with tmp := s.status, res := s.cfg.errTransmission, rvalid := true, fsm := .idle } := by
  simp only [exec, execRxbyte, hm, receiveCheck_eq, h, Bool.false_eq_true, if_false, State.complete]

theorem exec_rxbyte_rxData {s : State} (hm : s.fsm = .rxData) (ack : AckPolicy) :
    exec (.rxbyte ack) s = .next { s with res := s.data, rvalid := true, fsm := .idle } := by
  simp only [exec, execRxbyte, hm, readThen_dr, State.complete]

/-- Settles O30, step by step; the two outcomes of the check are the two values of the branch. -/
theorem receiveStepsFollowTheirRules : Obligations.ReceiveStepsFollowTheirRules := fun _ ack =>
  ⟨fun hm => exec_rxbyte_rxEa hm ack, fun hm => exec_rxbyte_rxClr hm ack,
    fun hm hstatus => exec_rxbyte_rxChk_of_byte hm (rxHit_xor_inverted hstatus) ack,
    fun hm hstatus => exec_rxbyte_rxChk_of_error hm (rxHit_xor_inverted hstatus) ack,
    fun hm => exec_rxbyte_rxData hm ack⟩

/-! ### The guard's iteration -/

/-- A spent counter times out, even with the flag set (D12). -/
theorem guarded_of_spent {s : State} (hcnt : s.cnt = 0) (stay : MicroState) (ready : State → State) :
    s.guarded stay ready = { s with res := s.cfg.errBusDisconnected, rvalid := true, fsm := .idle } := if_pos hcnt

theorem guarded_of_flag {s : State} (hcnt : s.cnt ≠ 0) (hint : s.int = true) (stay : MicroState)
    (ready : State → State) : s.guarded stay ready = ready s := by
  rw [State.guarded, if_neg hcnt, if_pos hint]

/-- The read that brings the counter to 0 times out itself (D12). -/
theorem guarded_of_last_read {s : State} (hcnt : s.cnt = 1) (hint : s.int = false) (stay : MicroState)
    (ready : State → State) :
    s.guarded stay ready = { s with cnt := 0, res := s.cfg.errBusDisconnected, rvalid := true, fsm := .idle } := by
  simp [State.guarded, hcnt, hint, State.complete]

theorem guarded_of_no_flag {s : State} {stay : MicroState} (hm : s.fsm = stay) (hcnt : 1 < s.cnt.toNat)
    (hint : s.int = false) (ready : State → State) : s.guarded stay ready = { s with cnt := s.cnt - 1 } := by
  have hread : s.cnt ≠ 0 := by bv_omega
  have hleft : s.cnt - 1 ≠ 0 := by bv_omega
  rw [State.guarded, if_neg hread, hint, if_neg Bool.false_ne_true, if_neg hleft, State.goto, ← hm]

theorem exec_rxbyte_rxPoll {s : State} (hm : s.fsm = .rxPoll) (ack : AckPolicy) :
    exec (.rxbyte ack) s = .next (s.guarded .rxPoll (State.goto .rxChk)) := by
  simp only [exec, execRxbyte, hm, guardIteration_eq, State.guarded]

theorem exec_waitrdy_wrPoll {s : State} (hm : s.fsm = .wrPoll) (budget : Byte) :
    exec (.waitrdy budget) s = .next (s.guarded .wrPoll (State.complete s.cfg.ok)) := by
  simp only [exec, execWaitrdy, hm, guardIteration_eq, State.guarded]

/-- The four cases of an iteration, for any result that is the guard's. -/
theorem guard_cases_of_eq {s : State} {stay : MicroState} {ready : State → State} {r : Result} (hm : s.fsm = stay)
    (h : r = .next (s.guarded stay ready)) :
    (s.cnt = 0 → r = .next { s with res := s.cfg.errBusDisconnected, rvalid := true, fsm := .idle }) ∧
      (s.cnt ≠ 0 → s.int = true → r = .next (ready s)) ∧
      (s.cnt = 1 → s.int = false →
        r = .next { s with cnt := 0, res := s.cfg.errBusDisconnected, rvalid := true, fsm := .idle }) ∧
      (1 < s.cnt.toNat → s.int = false → r = .next { s with cnt := s.cnt - 1 }) := by
  subst h
  exact ⟨fun hcnt => congrArg _ (guarded_of_spent hcnt ..), fun hcnt hint => congrArg _ (guarded_of_flag hcnt hint ..),
    fun hcnt hint => congrArg _ (guarded_of_last_read hcnt hint ..),
    fun hcnt hint => congrArg _ (guarded_of_no_flag hm hcnt hint _)⟩

/-- Settles O31: both operations poll by the one guard, whose iteration has four cases. -/
theorem guardIterationCountsDown : Obligations.GuardIterationCountsDown := fun _ =>
  ⟨fun ack hm => guard_cases_of_eq hm (exec_rxbyte_rxPoll hm ack),
    fun budget hm => guard_cases_of_eq hm (exec_waitrdy_wrPoll hm budget)⟩

end Sys2Proof.Machine
end

section
/-! PROOFS. Waiting in the timeout guard: the reads that see no flag, until the engine's *complete* step or the end of the
budget (spec/44_receive_and_guard.md R173, R174, R179). -/

namespace Sys2Proof.Machine

/-- The micro-states of the guarded polls (spec/44_receive_and_guard.md R174, R179). -/
def guardedPolls : List MicroState := [.rxPoll, .wrPoll]

theorem ne_idle_of_mem_guardedPolls {m : MicroState} (h : m ∈ guardedPolls) : m ≠ .idle := by
  rintro rfl
  simp [guardedPolls] at h

theorem microNext_guardedPoll {s : State} (hm : s.fsm ∈ guardedPolls) :
    ∃ ready, s.microNext = s.guarded s.fsm ready := by
  cases h : s.fsm with
  | rxPoll => exact ⟨State.goto .rxChk, by simp only [State.microNext, h]⟩
  | wrPoll => exact ⟨State.complete s.cfg.ok, by simp only [State.microNext, h]⟩
  | _ => simp [guardedPolls, h] at hm

theorem microNext_guardedPoll_of_no_flag {s : State} (hm : s.fsm ∈ guardedPolls) (hcnt : 1 < s.cnt.toNat)
    (hint : s.int = false) : s.microNext = { s with cnt := s.cnt - 1 } := by
  obtain ⟨ready, h⟩ := microNext_guardedPoll hm
  rw [h, guarded_of_no_flag rfl hcnt hint]

theorem microNext_guardedPoll_of_last_read {s : State} (hm : s.fsm ∈ guardedPolls) (hcnt : s.cnt = 1)
    (hint : s.int = false) :
    s.microNext = { s with cnt := 0, res := s.cfg.errBusDisconnected, rvalid := true, fsm := .idle } := by
  obtain ⟨ready, h⟩ := microNext_guardedPoll hm
  rw [h, guarded_of_last_read hcnt hint]

/-- Fewer reads than the budget that see no flag only count down. -/
theorem run_guard_of_no_flag {s : State} (hm : s.fsm ∈ guardedPolls) (hint : s.int = false) {k : Nat}
    (hk : k < s.cnt.toNat) (n : Nat) (ts : List Turn) :
    run (k + n) { s with turns := List.replicate k .block ++ ts } =
      run n { s with turns := ts, cnt := BitVec.ofNat 8 (s.cnt.toNat - k) } := by
  induction k generalizing s with
  | zero => simp
  | succ k ih =>
    have hread := run_block_cons (ne_idle_of_mem_guardedPolls hm)
      (microNext_guardedPoll_of_no_flag hm (by omega) hint) (k + n) (List.replicate k .block ++ ts)
    have hcnt : (s.cnt - 1).toNat = s.cnt.toNat - 1 := by bv_omega
    have hrest := ih (s := { s with cnt := s.cnt - 1 }) hm hint (by simp only [hcnt]; omega)
    have hleft : (s.cnt - 1).toNat - k = s.cnt.toNat - (k + 1) := by omega
    simp only [hleft] at hrest
    rw [Nat.succ_add]
    exact hread.trans hrest

/-- As many reads as the budget, none of which sees the flag, time out. -/
theorem run_guard_times_out {s : State} (hm : s.fsm ∈ guardedPolls) (hint : s.int = false) (hcnt : s.cnt ≠ 0)
    (ts : List Turn) :
    run s.cnt.toNat { s with turns := List.replicate s.cnt.toNat .block ++ ts } =
      .next { s with turns := ts, cnt := 0, res := s.cfg.errBusDisconnected, rvalid := true, fsm := .idle } := by
  obtain ⟨k, hk⟩ : ∃ k, s.cnt.toNat = k + 1 := Nat.exists_eq_succ_of_ne_zero (by bv_omega)
  have hwait := run_guard_of_no_flag hm hint (k := k) (by omega) 1 (.block :: ts)
  have hlast := run_block_cons (s := { s with cnt := 1 }) (ne_idle_of_mem_guardedPolls hm)
    (microNext_guardedPoll_of_last_read (s := { s with cnt := 1 }) hm rfl hint) 0 ts
  have hleft : s.cnt.toNat - k = 1 := by omega
  rw [hleft] at hwait
  rw [hk, List.replicate_succ', List.append_assoc]
  exact hwait.trans hlast

/-- The state of a guard after `k` reads that saw no flag and the engine's *complete* step (spec/20_memory.md R71). -/
def State.answered (k : Nat) (status data : Byte) (s : State) : State :=
  { s with cnt := BitVec.ofNat 8 (s.cnt.toNat - k), status := status, data := data, int := true }

/-- After fewer reads than the budget the counter is not spent. -/
theorem answered_cnt_ne_zero {s : State} {k : Nat} (hk : k < s.cnt.toNat) (status data : Byte) :
    (s.answered k status data).cnt ≠ 0 := by
  change BitVec.ofNat 8 (s.cnt.toNat - k) ≠ 0
  bv_omega

/-- An enabled engine that completes after fewer reads than the budget answers the guard. -/
theorem run_guard_to_flag {s : State} (hm : s.fsm ∈ guardedPolls) (hint : s.int = false) (hen : s.en = true)
    {k : Nat} (hk : k < s.cnt.toNat) (status data : Byte) (n : Nat) (ts : List Turn) :
    run (k + (n + 1)) { s with turns := List.replicate k .block ++ .complete status data :: ts } =
      run n { s.answered k status data with turns := ts } := by
  rw [run_guard_of_no_flag hm hint hk]
  exact run_succ_of_next n ((engineStepsAsItsContractSays _ _).1 status data rfl hen hint)

end Sys2Proof.Machine
end

section
/-! PROOFS. The whole operation WAITRDY, from the offer in `IDLE` to its verdict (spec/44_receive_and_guard.md R178 to R180). -/

namespace Sys2Proof.Machine

theorem microNext_wrPoll {s : State} (hm : s.fsm = .wrPoll) :
    s.microNext = s.guarded .wrPoll (State.complete s.cfg.ok) :=
  microNext_of_exec (inFlight_waitrdy hm) (exec_waitrdy_wrPoll hm _)

theorem run_waitrdy_of_spent {s : State} (hm : s.fsm = .wrPoll) (hcnt : s.cnt = 0) (ts : List Turn) :
    run 1 { s with turns := .block :: ts } =
      .next { s with turns := ts, res := s.cfg.errBusDisconnected, rvalid := true, fsm := .idle } :=
  run_block_cons (by simp [hm]) ((microNext_wrPoll hm).trans (guarded_of_spent hcnt ..)) 0 ts

theorem run_waitrdy_of_flag {s : State} (hm : s.fsm = .wrPoll) (hcnt : s.cnt ≠ 0) (hint : s.int = true)
    (ts : List Turn) :
    run 1 { s with turns := .block :: ts } =
      .next { s with turns := ts, res := s.cfg.ok, rvalid := true, fsm := .idle } :=
  run_block_cons (by simp [hm]) ((microNext_wrPoll hm).trans (guarded_of_flag hcnt hint ..)) 0 ts

/-- The state in which WAITRDY's guard begins: the operand latched and loaded (spec/44_receive_and_guard.md R178). -/
def State.waiting (budget : Byte) (s : State) : State :=
  { s with lop := 7, lmod := 0, limm := budget.zeroExtend 32, rvalid := false, cnt := budget, fsm := .wrPoll }

theorem run_waitrdy_to_guard {s : State} {budget : Byte} {ts : List Turn} (hturns : s.turns = .block :: ts)
    (hidle : s.fsm = .idle) (hvalid : s.cmdValid = true) (hdec : decode s.cmd = .ok (.waitrdy budget)) (n : Nat) :
    run (n + 1) s = run n { s.waiting budget with turns := ts } := run_accept hturns hidle hvalid hdec rfl n

/-- Settles O42: acceptance loads the budget; then the guard's first read decides, or the reads that see no flag come first. -/
theorem waitrdyTimesOutExactlyWhenTheBudgetRunsOut : Obligations.WaitrdyTimesOutExactlyWhenTheBudgetRunsOut := by
  intro s rest b hidle hvalid hdec
  have hpoll : (s.waiting b).fsm ∈ guardedPolls := by simp [State.waiting, guardedPolls]
  refine ⟨fun hb hturns => ?_, fun hb hint hturns => ?_, fun k status data hk hint hen hturns => ?_,
    fun hb hint hturns => ?_⟩
  · subst hb
    rw [run_waitrdy_to_guard hturns hidle hvalid hdec 1, hidle]
    exact run_waitrdy_of_spent (s := s.waiting 0) rfl rfl rest
  · rw [run_waitrdy_to_guard hturns hidle hvalid hdec 1, hidle]
    exact run_waitrdy_of_flag (s := s.waiting b) rfl hb hint rest
  · rw [List.append_assoc] at hturns
    rw [run_waitrdy_to_guard hturns hidle hvalid hdec (k + 2), hidle]
    exact (run_guard_to_flag hpoll hint hen hk status data 1 (.block :: rest)).trans
      (run_waitrdy_of_flag rfl (answered_cnt_ne_zero hk status data) rfl rest)
  · rw [run_waitrdy_to_guard hturns hidle hvalid hdec b.toNat, hidle]
    exact run_guard_times_out hpoll hint hb rest

end Sys2Proof.Machine
end

section
/-! PROOFS. The whole operation RXBYTE, from the offer in `IDLE` to its result (spec/44_receive_and_guard.md R170 to R177). -/

namespace Sys2Proof.Machine

/-! ### RXBYTE's own turns -/

theorem microNext_rxEa {s : State} (hm : s.fsm = .rxEa) :
    s.microNext = { s with ea := decide (s.latchedAck = .sendAck), fsm := .rxClr } :=
  microNext_of_exec (inFlight_rxbyte (by simp [hm])) (exec_rxbyte_rxEa hm _)

theorem microNext_rxClr {s : State} (hm : s.fsm = .rxClr) :
    s.microNext = { s with int := false, cnt := 60, fsm := .rxPoll } :=
  microNext_of_exec (inFlight_rxbyte (by simp [hm])) (exec_rxbyte_rxClr hm s.latchedAck)

theorem microNext_rxPoll {s : State} (hm : s.fsm = .rxPoll) :
    s.microNext = s.guarded .rxPoll (State.goto .rxChk) :=
  microNext_of_exec (inFlight_rxbyte (by simp [hm])) (exec_rxbyte_rxPoll hm s.latchedAck)

theorem microNext_rxChk_of_byte {s : State} (hm : s.fsm = .rxChk)
    (h : (rxHit s.cfg s.status ^^ s.cfg.rxCheckInverted) = true) :
    s.microNext = { s with tmp := s.status, fsm := .rxData } :=
  microNext_of_exec (inFlight_rxbyte (by simp [hm])) (exec_rxbyte_rxChk_of_byte hm h s.latchedAck)

theorem microNext_rxChk_of_error {s : State} (hm : s.fsm = .rxChk)
    (h : (rxHit s.cfg s.status ^^ s.cfg.rxCheckInverted) = false) :
    s.microNext = { s with tmp := s.status, res := s.cfg.errTransmission, rvalid := true, fsm := .idle } :=
  microNext_of_exec (inFlight_rxbyte (by simp [hm])) (exec_rxbyte_rxChk_of_error hm h s.latchedAck)

theorem microNext_rxData {s : State} (hm : s.fsm = .rxData) :
    s.microNext = { s with res := s.data, rvalid := true, fsm := .idle } :=
  microNext_of_exec (inFlight_rxbyte (by simp [hm])) (exec_rxbyte_rxData hm s.latchedAck)

/-! ### The parts of the run -/

/-- The state in which RXBYTE's guard begins: the operands latched, the policy written, the flag cleared and the budget loaded
(spec/44_receive_and_guard.md R171, R172). -/
def State.receiving (ack : AckPolicy) (s : State) : State :=
  { s with
    lop := 5
    lmod := if ack = .sendAck then 1 else 0
    limm := 0
    rvalid := false
    int := false
    ea := decide (ack = .sendAck)
    cnt := 60
    fsm := .rxPoll }

theorem modifier_rxbyte (ack : AckPolicy) : (Instr.rxbyte ack).modifier = if ack = .sendAck then 1 else 0 := by
  cases ack <;> rfl

/-- The latched modifier gives the policy back (spec/44_receive_and_guard.md R170). -/
theorem policy_of_modifier (ack : AckPolicy) :
    AckPolicy.ofBit ((if ack = .sendAck then 1 else 0 : BitVec 4).getLsbD 0) = ack := by
  cases ack <;> rfl

/-- Acceptance and RXBYTE's first two turns bring it to its guard. -/
theorem run_rxbyte_to_guard {s : State} {ack : AckPolicy} {ts : List Turn}
    (hturns : s.turns = .block :: .block :: .block :: ts) (hidle : s.fsm = .idle) (hvalid : s.cmdValid = true)
    (hdec : decode s.cmd = .ok (.rxbyte ack)) (n : Nat) :
    run (n + 3) s = run n { s.receiving ack with turns := ts } := by
  have haccept := run_accept hturns hidle hvalid hdec rfl (n + 2)
  have hpolicy := run_block_cons (by simp) (microNext_rxEa (s := { s with
    lop := 5, lmod := if ack = .sendAck then 1 else 0, limm := 0, rvalid := false, fsm := .rxEa }) rfl) (n + 1)
    (.block :: ts)
  have hclear := run_block_cons (by simp) (microNext_rxClr (s := { s with
    lop := 5, lmod := if ack = .sendAck then 1 else 0, limm := 0, rvalid := false, ea := decide (ack = .sendAck),
    fsm := .rxClr }) rfl) n ts
  rw [modifier_rxbyte] at haccept
  simp only [State.latchedAck, policy_of_modifier] at hpolicy
  exact haccept.trans (hpolicy.trans hclear)

/-- An enabled engine that completes within the budget brings RXBYTE to its check, with what it delivered. -/
theorem run_rxbyte_to_check {s : State} (hm : s.fsm = .rxPoll) (hint : s.int = false) (hen : s.en = true) {k : Nat}
    (hk : k < s.cnt.toNat) (status data : Byte) (n : Nat) (ts : List Turn) :
    run (k + (n + 2)) { s with turns := List.replicate k .block ++ .complete status data :: .block :: ts } =
      run n { (s.answered k status data).goto .rxChk with turns := ts } := by
  have hflag := run_guard_to_flag (by simp [hm, guardedPolls]) hint hen hk status data (n + 1) (.block :: ts)
  have hready := run_block_cons (by simp [State.answered, hm]) ((microNext_rxPoll (s := s.answered k status data) hm).trans
    (guarded_of_flag (answered_cnt_ne_zero hk status data) rfl ..)) n ts
  exact hflag.trans hready

/-- Under a status of the byte branch the check and the data read deliver the byte (spec/44_receive_and_guard.md R175, R176). -/
theorem run_rxbyte_of_byte {s : State} (hm : s.fsm = .rxChk)
    (h : (rxHit s.cfg s.status ^^ s.cfg.rxCheckInverted) = true) (ts : List Turn) :
    run 2 { s with turns := .block :: .block :: ts } =
      .next { s with turns := ts, tmp := s.status, res := s.data, rvalid := true, fsm := .idle } := by
  have hcheck := run_block_cons (by simp [hm]) (microNext_rxChk_of_byte hm h) 1 (.block :: ts)
  have hdata := run_block_cons (by simp) (microNext_rxData (s := { s with tmp := s.status, fsm := .rxData }) rfl) 0 ts
  exact hcheck.trans hdata

theorem run_rxbyte_of_error {s : State} (hm : s.fsm = .rxChk)
    (h : (rxHit s.cfg s.status ^^ s.cfg.rxCheckInverted) = false) (ts : List Turn) :
    run 1 { s with turns := .block :: ts } = .next { s with
      turns := ts, tmp := s.status, res := s.cfg.errTransmission, rvalid := true, fsm := .idle } :=
  run_block_cons (by simp [hm]) (microNext_rxChk_of_error hm h) 0 ts

/-- Settles O40: acceptance and the way to the guard, the engine's completion within the budget, and the check's two branches. -/
theorem rxbyteCompletesWhenTheEngineDoes : Obligations.RxbyteCompletesWhenTheEngineDoes := by
  intro s rest k ack status data hidle hvalid hdec hen hk
  have hcheck := run_rxbyte_to_check (s := s.receiving ack) rfl rfl hen hk status data
  refine ⟨fun hstatus hturns => ?_, fun hstatus hturns => ?_⟩
  · rw [List.append_assoc] at hturns
    rw [run_rxbyte_to_guard hturns hidle hvalid hdec (k + 4), hidle]
    exact (hcheck 2 _).trans (run_rxbyte_of_byte rfl (rxHit_xor_inverted hstatus) rest)
  · rw [List.append_assoc] at hturns
    rw [run_rxbyte_to_guard hturns hidle hvalid hdec (k + 3), hidle]
    exact (hcheck 1 _).trans (run_rxbyte_of_error rfl (rxHit_xor_inverted hstatus) rest)

/-- Settles O41: the guard's 60 reads run out, and the flag is still clear for the engine's next *complete* step. -/
theorem rxbyteTimesOutAfterSixtyReads : Obligations.RxbyteTimesOutAfterSixtyReads := by
  intro s rest ack hidle hvalid hdec hturns
  have hrun := run_rxbyte_to_guard hturns hidle hvalid hdec 60
  have htimeout := run_guard_times_out (s := s.receiving ack) (by simp [State.receiving, guardedPolls]) rfl
    (by simp [State.receiving]) rest
  refine ⟨by rw [hrun, hidle]; exact htimeout, fun u status data hu hrest hen => ?_⟩
  have hu' := Host.Outcome.next.inj ((hrun.trans htimeout).symm.trans hu)
  subst hu' hrest
  exact (engineStepsAsItsContractSays _ _).1 status data rfl hen rfl

end Sys2Proof.Machine
end

section
/-! PROOFS. RXBYTE and WAITRDY among the other agents' moves: both always complete (spec/44_receive_and_guard.md R178, R179,
R185). -/

namespace Sys2Proof.Machine

/-- The block turns RXBYTE or WAITRDY still takes at most, by its micro-state and `CNT` (spec/44_receive_and_guard.md R185). -/
def guardTurnsLeft : MicroState → Byte → Nat
  | .rxEa, _ => 64
  | .rxClr, _ => 63
  | .rxPoll, cnt => cnt.toNat + 2
  | .rxChk, _ => 2
  | .rxData, _ => 1
  | .wrPoll, cnt => max 1 cnt.toNat
  | _, _ => 0

/-- RXBYTE runs, or has completed with a result. -/
def Receives (s : State) : Prop :=
  s.fsm ∈ [.rxEa, .rxClr, .rxPoll, .rxChk, .rxData] ∨ s.fsm = .idle ∧ s.rvalid = true

/-- WAITRDY runs, or has completed with one of its two results (spec/44_receive_and_guard.md R180). -/
def Waits (c : Config) (s : State) : Prop :=
  s.cfg = c ∧ (s.fsm = .wrPoll ∨ s.fsm = .idle ∧ s.rvalid = true ∧ (s.res = c.ok ∨ s.res = c.errBusDisconnected))

theorem OthersMove.receives {s t : State} (h : OthersMove s t) (hs : Receives s) : Receives t := by
  cases h
  exact hs

theorem OthersMove.waits {c : Config} {s t : State} (h : OthersMove s t) (hs : Waits c s) : Waits c t := by
  cases h
  exact hs

theorem microNext_receives {s : State} (hs : Receives s) (hbusy : s.fsm ≠ .idle) :
    Receives s.microNext ∧ guardTurnsLeft s.microNext.fsm s.microNext.cnt < guardTurnsLeft s.fsm s.cnt := by
  obtain hm | ⟨hidle, -⟩ := hs
  · cases h : s.fsm with
    | rxEa => simp [microNext_rxEa h, Receives, guardTurnsLeft]
    | rxClr => simp [microNext_rxClr h, Receives, guardTurnsLeft]
    | rxPoll =>
      rw [microNext_rxPoll h]
      obtain ⟨n, hg⟩ | ⟨hcnt, -, hg⟩ | ⟨hcnt, -, hg⟩ := guarded_cases .rxPoll (State.goto .rxChk) s
      · simp [hg, Receives, guardTurnsLeft]
      · have hleft : 2 < s.cnt.toNat + 2 := by bv_omega
        simp [hg, Receives, guardTurnsLeft, hleft]
      · have hleft : (s.cnt - 1).toNat + 2 < s.cnt.toNat + 2 := by bv_omega
        simpa [hg, Receives, guardTurnsLeft] using hleft
    | rxChk =>
      cases hbranch : rxHit s.cfg s.status ^^ s.cfg.rxCheckInverted with
      | true => simp [microNext_rxChk_of_byte h hbranch, Receives, guardTurnsLeft]
      | false => simp [microNext_rxChk_of_error h hbranch, Receives, guardTurnsLeft]
    | rxData => simp [microNext_rxData h, Receives, guardTurnsLeft]
    | _ => simp [h] at hm
  · exact absurd hidle hbusy

theorem microNext_waits {c : Config} {s : State} (hs : Waits c s) (hbusy : s.fsm ≠ .idle) :
    Waits c s.microNext ∧ guardTurnsLeft s.microNext.fsm s.microNext.cnt < guardTurnsLeft s.fsm s.cnt := by
  obtain ⟨rfl, hm | ⟨hidle, -⟩⟩ := hs
  · rw [microNext_wrPoll hm]
    obtain ⟨n, hg⟩ | ⟨-, -, hg⟩ | ⟨hcnt, hlast, hg⟩ := guarded_cases .wrPoll (State.complete s.cfg.ok) s
    · simp [hg, hm, Waits, guardTurnsLeft]
    · simp [hg, hm, Waits, guardTurnsLeft]
    · have hleft : max 1 (s.cnt - 1).toNat < max 1 s.cnt.toNat := by bv_omega
      simpa [hg, hm, Waits, guardTurnsLeft] using hleft
  · exact absurd hidle hbusy

/-- Settles O45: every turn of either operation leaves fewer turns, and the other agents' moves leave as many. -/
theorem boundedOperationsAlwaysComplete : Obligations.BoundedOperationsAlwaysComplete := by
  refine fun s hreset => ⟨fun hm hcount => ?_, fun hm hcount => ?_⟩
  · obtain ⟨n, t, hn, hblocks, hrun, hidle, ht⟩ :=
      run_completes (Running := Receives) (left := guardTurnsLeft) (fun _ _ h hmove => hmove.receives h)
        (fun _ => microNext_receives) (.inl (by simp [hm])) hreset (by simpa [hm, guardTurnsLeft] using hcount)
    exact ⟨n, t, hn, by simpa [hm, guardTurnsLeft] using hblocks, hrun, hidle, by simpa [Receives, hidle] using ht⟩
  · obtain ⟨n, t, hn, hblocks, hrun, hidle, ht⟩ :=
      run_completes (Running := Waits s.cfg) (left := guardTurnsLeft) (fun _ _ h hmove => hmove.waits h)
        (fun _ => microNext_waits) ⟨rfl, .inl hm⟩ hreset (by simpa [hm, guardTurnsLeft] using hcount)
    obtain ⟨-, hbusy | ⟨-, hvalid, hres⟩⟩ := ht
    · simp [hidle] at hbusy
    exact ⟨n, t, hn, by simpa [hm, guardTurnsLeft] using hblocks, hrun, hidle, hvalid, hres⟩

end Sys2Proof.Machine
end

section
/-! PROOFS. The whole operation STOP, from the offer in `IDLE` to the engine's *stop-done*, and its one turn among the other
agents' moves (spec/45_stop.md R190 to R193). -/

namespace Sys2Proof.Machine

/-! ### STOP alone -/

theorem microNext_stopCtl {s : State} (hm : s.fsm = .stopCtl) : s.microNext = { s with
    int := false, ea := false, sta := false, sto := true, en := true, fsm := .idle } :=
  microNext_of_exec (inFlight_stop hm) (exec_stop_stopCtl hm)

/-- An offered STOP is accepted in the block's first turn and completes in its second, with the stop requested. -/
theorem run_stop_offered {s : State} {ts : List Turn} (hturns : s.turns = .block :: .block :: ts) (hidle : s.fsm = .idle)
    (hvalid : s.cmdValid = true) (hdec : decode s.cmd = .ok .stop) (n : Nat) :
    run (n + 2) s = run n { s with
      turns := ts
      lop := 6
      lmod := 0
      limm := 0
      int := false
      ea := false
      sta := false
      sto := true
      en := true
      rvalid := false } := by
  have haccept := run_accept hturns hidle hvalid hdec rfl (n + 1)
  have hcontrol := run_block_cons (by simp) (microNext_stopCtl (s := { s with
    lop := 6, lmod := 0, limm := 0, rvalid := false, fsm := .stopCtl }) rfl) n ts
  rw [hidle]
  exact haccept.trans hcontrol

/-! ### Until the block's first turn -/

theorem OthersMove.keeps {s t : State} (h : OthersMove s t) : t.fsm = s.fsm ∧ t.res = s.res ∧ t.rvalid = s.rvalid := by
  cases h
  exact ⟨rfl, rfl, rfl⟩

theorem OthersMove.trans {r s t : State} (h : OthersMove r s) (h' : OthersMove s t) : OthersMove r t := by
  cases h
  cases h'
  exact .mk ..

/-- A running operation takes its turn at the block's first turn, after no more than the other agents' moves before it. -/
theorem run_to_first_block {s : State} (hbusy : s.fsm ≠ .idle) (hreset : ∀ u ∈ s.turns, u ≠ .reset)
    (hblock : .block ∈ s.turns) :
    ∃ n t, n ≤ s.turns.length ∧ (s.turns.take n).count .block ≤ 1 ∧ OthersMove s t ∧ run n s = .next t.microNext := by
  induction hturns : s.turns generalizing s with
  | nil => simp [hturns] at hblock
  | cons u ts ih =>
    by_cases hu : u = .block
    · subst hu
      have hstep := step_busy (by simpa [State.busy] using hbusy) hturns
      exact ⟨1, { s with turns := ts }, by simp, by simp, .mk .., run_succ_of_next 0 hstep⟩
    · rw [hturns, List.forall_mem_cons] at hreset
      obtain ⟨s', hstep, rfl, hmove⟩ := step_others hturns hu hreset.1
      obtain ⟨hfsm, -⟩ := hmove.keeps
      have hblock' : .block ∈ s'.turns := by simpa [hturns, Ne.symm hu] using hblock
      obtain ⟨n, t, hn, hcount, hothers, hrun⟩ := ih (hfsm ▸ hbusy) hreset.2 hblock' rfl
      exact ⟨n + 1, t, Nat.succ_le_succ hn, by rwa [List.take_succ_cons, List.count_cons_of_ne hu],
        hmove.trans hothers, (run_succ_of_next n hstep).trans hrun⟩

/-- Settles O43: acceptance and the one control write, then the engine's *stop-done*; among the other agents' moves the block's
first turn is the control write, whose bits do not depend on what they did. -/
theorem stopCompletesInOneStep : Obligations.StopCompletesInOneStep := by
  refine ⟨fun s rest hidle hvalid hdec => ⟨fun hturns => ?_, fun hturns => ?_⟩, fun s hm hreset hcount => ?_⟩
  · exact run_stop_offered hturns hidle hvalid hdec 0
  · rw [run_stop_offered hturns hidle hvalid hdec 1]
    exact run_succ_of_next 0 ((engineStepsAsItsContractSays _ rest).2.2 rfl)
  · obtain ⟨n, t, hn, hblocks, hothers, hrun⟩ :=
      run_to_first_block (by simp [hm]) hreset (List.count_pos_iff.mp hcount)
    obtain ⟨hfsm, hres, hvalid⟩ := hothers.keeps
    rw [microNext_stopCtl (hfsm.trans hm)] at hrun
    exact ⟨n, _, hn, hblocks, hrun, rfl, rfl, rfl, rfl, rfl, rfl, hres, hvalid⟩

end Sys2Proof.Machine
end

section
/-! PROOFS. The life of `INT`: what each move does to the flag (spec/60_exceptions.md R204, spec/10_state.md R25). -/

namespace Sys2Proof.Machine

/-- The micro-states whose turn clears `INT`: the control writes and RXBYTE's flag-clear (spec/60_exceptions.md R204). They are
the `answeredStates`: the peripheral answers a cleared flag. -/
def flagClearingStates : List MicroState := [.startCtl, .txaCtl, .txbCtl, .rxClr, .stopCtl]

theorem microNext_int (s : State) : s.microNext.int = (s.int && !decide (s.fsm ∈ flagClearingStates)) := by
  cases h : s.fsm with
  | initBr => simp only [State.microNext, h]; split <;> simp [flagClearingStates]
  | rxPoll | wrPoll => simp only [State.microNext, State.guarded, h]; split_ifs <;> simp [flagClearingStates]
  | rxChk => simp only [State.microNext, h]; split_ifs <;> simp [flagClearingStates]
  | _ => simp [State.microNext, State.checked, flagClearingStates, h]

@[simp] theorem State.accepted_int (i : Instr) (s : State) : (s.accepted i).int = s.int := by
  cases i <;> rfl

/-- What each move does to `INT`: reset clears it, a turn in a clearing micro-state clears it, an enabled *complete* sets it with
its status, and nothing else writes it. -/
theorem Move.int_cases {s t : State} {u : Turn} (h : Move s u t) :
    (u = .reset ∧ t.int = false) ∨ (u = .block ∧ s.fsm ∈ flagClearingStates ∧ t.int = false) ∨
      (∃ status data, u = .complete status data ∧ s.en = true ∧ t.int = true ∧ t.status = status) ∨
      (u ≠ .reset ∧ ¬ (u = .block ∧ s.fsm ∈ flagClearingStates) ∧ t.int = s.int) := by
  cases h with
  | wait hidle => exact .inr (.inr (.inr ⟨by simp, by simp [hidle, flagClearingStates], rfl⟩))
  | accept i hidle =>
    exact .inr (.inr (.inr ⟨by simp, by simp [hidle, flagClearingStates], State.accepted_int i s⟩))
  | run =>
    by_cases hm : s.fsm ∈ flagClearingStates
    · exact .inr (.inl ⟨rfl, hm, by simp [microNext_int, hm]⟩)
    · exact .inr (.inr (.inr ⟨by simp, by simp [hm], by simp [microNext_int, hm]⟩))
  | complete status data =>
    by_cases henabled : s.en = true ∧ s.int = false
    · obtain ⟨hen, hint⟩ := henabled
      rw [engineComplete_of_enabled status data hen hint]
      exact .inr (.inr (.inl ⟨status, data, rfl, hen, rfl, rfl⟩))
    · have hoff : s.en = false ∨ s.int = true := by simpa [imp_iff_not_or] using henabled
      rw [engineComplete_of_disabled status data hoff]
      exact .inr (.inr (.inr ⟨by simp, by simp, rfl⟩))
  | reset => exact .inl ⟨rfl, rfl⟩
  | stopDone | offer | withdraw => exact .inr (.inr (.inr ⟨by simp, by simp, rfl⟩))

/-- Settles O50, from what each move does to `INT`. -/
theorem flagIsSetAndClearedOnlyAsStated : Obligations.FlagIsSetAndClearedOnlyAsStated := by
  intro s t h
  obtain ⟨ts, n, hm⟩ := exists_move_of_step h
  obtain ⟨hu, ht⟩ | ⟨hu, hmem, ht⟩ | ⟨status, data, hu, hen, ht, hstatus⟩ | ⟨hreset, hnot, ht⟩ := hm.int_cases
  · simp [hu, ht]
  · exact ⟨by simp [ht], fun _ _ => .inr ⟨hu, hmem⟩, fun _ _ => ht, fun _ => ht⟩
  · exact ⟨fun _ _ => ⟨status, data, hu, hen, hstatus⟩, by simp [ht], by simp [hu], by simp [hu]⟩
  · exact ⟨fun hs hc => by simp [ht, hs] at hc, fun hs hc => by simp [ht, hs] at hc,
      fun hb hmem => absurd ⟨hb, hmem⟩ hnot, fun hr => absurd hr hreset⟩

end Sys2Proof.Machine
end

section
/-! PROOFS. `OK` means success: a check answers `OK` on a success status only, since no status of the hardware's form is `OK`
(spec/70_reset_and_hazards.md R244, spec/00_scope.md R10 (c)). -/

namespace Sys2Proof.Machine

theorem not_hardwareStatusForm_ok {c : Config} (hwf : c.wf = true) : Config.hardwareStatusForm c.ok = false := by
  simp only [Config.wf, Bool.and_eq_true, Bool.not_eq_true'] at hwf
  obtain ⟨⟨⟨-, hform, -⟩, -⟩, -⟩ := hwf
  exact hform

/-- A status of the hardware's form is never the sentinel `OK` (spec/00_scope.md R10 (c), as log 23 reads it). -/
theorem hardwareStatus_ne_ok {c : Config} {status : Byte} (hwf : c.wf = true)
    (hform : Config.hardwareStatusForm status = true) : status ≠ c.ok := by
  rintro rfl
  simp [not_hardwareStatusForm_ok hwf] at hform

/-- The result of a check, `OK` or the raw status, is `OK` exactly on success. -/
theorem checkResult_eq_ok_iff {c : Config} {status : Byte} (success : Prop) [Decidable success] (hwf : c.wf = true)
    (hform : Config.hardwareStatusForm status = true) : (if success then c.ok else status) = c.ok ↔ success := by
  rw [ite_eq_left_iff]
  exact ⟨fun h => by_contra fun hfail => hardwareStatus_ne_ok hwf hform (h hfail), fun hs hfail => absurd hs hfail⟩

/-- Settles O56: each of the three check steps answers `OK` or the raw status, and the raw status is not `OK`. -/
theorem okMeansSuccess : Obligations.OkMeansSuccess := fun s hwf hform =>
  ⟨fun hm => ⟨_, startCheckReturnsOkOrTheRawStatus s hm, checkResult_eq_ok_iff _ hwf hform⟩,
    fun addr dir hm => ⟨_, exec_txaddr_txaChk hm addr dir, checkResult_eq_ok_iff _ hwf hform⟩,
    fun byte hm => ⟨_, exec_txbyte_txbChk hm byte, checkResult_eq_ok_iff _ hwf hform⟩⟩

end Sys2Proof.Machine
end
